-- ==== Sys2Proof/Word.lean ====
section
/-! DEFINITION. The three widths of the block's values (00_scope.md R8, R11): bus bytes, 16-bit
calibration entries and raw results, 32-bit host registers and compensation arithmetic. -/

namespace Sys2Proof

/-- A bus byte, a device register address, a status code (R8: "bus bytes are 8 bits"). -/
abbrev Byte := BitVec 8

/-- A calibration entry or a raw conversion result (R8: 16 bits). -/
abbrev Half := BitVec 16

/-- A host register, a command word, a compensation term (R8: 32 bits). -/
abbrev Word := BitVec 32

end Sys2Proof
end

