-- ==== Sys2Proof/Config.lean ====
section
/-! DEFINITION. The implementation parameters of 00_scope.md R8. The OPEN ones have no value here:
`Config.board` is a constant without a body, and a machine state carries its configuration, so a
statement about every state holds for every choice of them. -/

namespace Sys2Proof

/-- P_UP_SOURCE of R8: the raw pressure term of the b7 step (R116). -/
inductive UpSource where
  | raw
  | literal
  deriving DecidableEq, Repr, Inhabited

/-- P_BUS_TIMEOUT of R8 and R82: NONE is the only value the spec defines. -/
inductive BusTimeout where
  | never
  deriving DecidableEq, Repr, Inhabited

/-- The parameters of R8, in its order. Constant for a run (20_memory.md R66). -/
structure Config where
  /-- P_ST_START -/
  stStart : Byte
  /-- P_ST_RESTART -/
  stRestart : Byte
  /-- P_ST_ADDR_W_ACK -/
  stAddrWAck : Byte
  /-- P_ST_DATA_W_ACK -/
  stDataWAck : Byte
  /-- P_ST_ADDR_R_ACK -/
  stAddrRAck : Byte
  /-- P_ST_DATA_R_ACK -/
  stDataRAck : Byte
  /-- P_ST_DATA_R_NACK -/
  stDataRNack : Byte
  /-- P_DEV_W -/
  devW : Byte
  /-- P_DEV_R -/
  devR : Byte
  /-- P_CTRL_REG -/
  ctrlReg : Byte
  /-- P_TEMP_CTRL -/
  tempCtrl : Byte
  /-- P_PRESS_CTRL -/
  pressCtrl : Byte
  /-- P_RES_MSB -/
  resMsb : Byte
  /-- P_RES_LSB -/
  resLsb : Byte
  /-- P_CAL_BASE -/
  calBase : Byte
  /-- P_CAL_SIGNED: bit i = 1 means calibration slot i is read as signed (R106). -/
  calSigned : BitVec 11
  /-- P_UP_SOURCE (R116). -/
  upSource : UpSource
  /-- P_BUS_TIMEOUT (R82). -/
  busTimeout : BusTimeout
  /-- P_T_CONV_TEMP: belongs to the delay timer, never read by the block (R8, R122). -/
  tConvTemp : Nat
  /-- P_T_CONV_PRESS: belongs to the delay timer, never read by the block (R8, R122). -/
  tConvPress : Nat
  deriving DecidableEq, Repr, Inhabited

namespace Config

/-- P_CAL_COUNT of R8, normative: 11. -/
def calCount : Nat := 11

/-- The normative default of P_CAL_SIGNED (R8, R106): signed for 0, 1, 2, 4, 6, 7, 8, 9. -/
def defaultSigned : BitVec 11 := 0b01111010111#11

/-- The OPEN parameters of the block at hand (R8). No body: nothing can be proved of its values (DESIGN
CHOICE, log entry 8, safe). -/
opaque board : Config

/-- The block's configuration: OPEN parameters free, the two normative defaults of R8 as stated. -/
def block : Config := { board with calSigned := defaultSigned, upSource := .raw }

/-- R8's column of suggested defaults (PRESUMED, log entry 8), for worked examples only: an OPEN parameter does not have
this value in the model, and the two durations have no suggested value at all. -/
def suggested : Config where
  stStart := 0x08#8
  stRestart := 0x10#8
  stAddrWAck := 0x18#8
  stDataWAck := 0x28#8
  stAddrRAck := 0x40#8
  stDataRAck := 0x50#8
  stDataRNack := 0x58#8
  devW := 0xEE#8
  devR := 0xEF#8
  ctrlReg := 0xF4#8
  tempCtrl := 0x2E#8
  pressCtrl := 0x34#8
  resMsb := 0xF6#8
  resLsb := 0xF7#8
  calBase := 0xAA#8
  calSigned := defaultSigned
  upSource := .raw
  busTimeout := .never
  tConvTemp := 0
  tConvPress := 0

end Config

end Sys2Proof
end

