-- ==== Sys2Proof/Machine/State.lean ====
section
/-! DEFINITION. The machine's state (10_state.md R24 to R44), as plain data: the block's registers,
the ports it shares with the bus controller and the delay timer (60_exceptions.md R146), the event
history (00_scope.md R17), the configuration, and the moves the other agents still have to make. -/

namespace Sys2Proof.Machine

/-- The phase register's values (R38). Numbers 13 to 15 are never entered. -/
inductive Phase where
  | idle
  | start
  | addrAck
  | regAck
  | dataAck
  | restart
  | addrRAck
  | readMsb
  | readLsbNack
  | stop
  | waitConv
  | compute
  | initBus
  deriving DecidableEq, Repr

/-- The shape of a transaction: register `xact` (R36) and field FAIL_XACT (R25). -/
inductive Shape where
  | none
  | trig
  | rdpair
  deriving DecidableEq, Repr

/-- The error codes of 60_exceptions.md R129. Codes 6 to 15 are never produced. -/
inductive ErrCode where
  | none
  | busPhase
  | divZero
  | uncalibrated
  | illegalCmd
  | badCal
  deriving DecidableEq, Repr

/-- The mode of a conversion wait (42_composite_reads.md R122). -/
inductive ConvMode where
  | temp
  | press
  deriving DecidableEq, Repr

/-- A bus primitive with its arguments (40_bus_transactions.md R80). -/
inductive BusReq where
  | init (c p : Byte)
  | start
  | stop
  | send (b : Byte)
  | noack
  | read
  | status
  deriving DecidableEq, Repr

/-- An answer of the bus controller that the sequencer has not used yet (R80, R81): the byte of a
READ or of a STATUS, or the plain acknowledgement of another request. -/
inductive BusAns where
  | done (r : BusReq)
  | read (b : Byte)
  | status (b : Byte)
  deriving DecidableEq, Repr

/-- The outcome FAIL(s, P, f) of a transaction (R86): status byte, phase, shape. -/
structure XFail where
  status : Byte
  phase : Phase
  shape : Shape
  deriving DecidableEq, Repr

/-- The last field of a CAL_READ event (60_exceptions.md R147): the word, or the failing status. -/
inductive CalRead where
  | ok (v : Half)
  | fail (s : Byte)
  deriving DecidableEq, Repr

/-- An event of the history (00_scope.md R17). -/
inductive Event where
  /-- BP_REQ(r), R81. -/
  | bpReq (r : BusReq)
  /-- BP_RSP(r, answer), R81: a byte for READ and STATUS, nothing for the others. -/
  | bpRsp (r : BusReq) (answer : Option Byte)
  /-- CONV_REQ(mode), R122. -/
  | convReq (m : ConvMode)
  /-- CONV_DONE(mode), R122. -/
  | convDone (m : ConvMode)
  /-- CAL_READ(i, ok, value), R147. -/
  | calRead (i : BitVec 4) (r : CalRead)
  /-- TEMP_RESULT(temp, b5), R147. -/
  | tempResult (t : Half) (b5 : Word)
  /-- PRESS_RESULT(p), R147. -/
  | pressResult (p : Word)
  /-- CMD_ACCEPTED(v), 20_memory.md R53. -/
  | cmdAccepted (v : Word)
  /-- CMD_REJECTED(v), R52. -/
  | cmdRejected (v : Word)
  /-- CMD_DONE(code), R54. -/
  | cmdDone (c : ErrCode)
  /-- RESET, 70_reset_and_hazards.md R149. -/
  | reset
  deriving DecidableEq, Repr

/-- One step of an agent (00_scope.md R7). `moves` of `State` lists them in the order they happen. -/
inductive Move where
  /-- HostRead of n bytes at an offset (R15, R48). -/
  | hostRead (off : Byte) (n : Nat)
  /-- HostWrite of n bytes at an offset. -/
  | hostWrite (off : Byte) (n : Nat) (v : Word)
  /-- The sequencer's next step, if it has one. -/
  | sequencer
  /-- The bus controller's answer step; the byte is its draw for READ and STATUS (R18, R81). -/
  | busAnswer (b : Byte)
  /-- The delay timer's answer step (R122). -/
  | timerAnswer
  /-- The environment asserts rst (70_reset_and_hazards.md R149). -/
  | rst
  deriving DecidableEq, Repr

/-- STATUS without its PHASE field, whose one home is the phase register (R25). -/
structure Status where
  busy : Bool
  done : Bool
  calValid : Bool
  b5Valid : Bool
  reject : Bool
  failXact : Shape
  err : ErrCode
  busStatus : Byte
  lastOp : BitVec 4
  failPhase : Phase
  deriving DecidableEq, Repr

/-- CALSTAT's two fields (R28). -/
structure CalStat where
  readFail : BitVec 11
  badValue : BitVec 11
  deriving DecidableEq, Repr

/-- `conv_req`: a valid bit and a mode (R36, R122). -/
structure ConvReq where
  valid : Bool
  mode : ConvMode
  deriving DecidableEq, Repr

/-- The machine. -/
structure State where
  /-- STATUS, offset 0x04 (R25). -/
  status : Status
  /-- CALSTAT, offset 0x08 (R28). -/
  calstat : CalStat
  /-- RESULT[15:0], offset 0x0C (R29). -/
  result : Half
  /-- TEMP[15:0], offset 0x10 (R30). -/
  temp : Half
  /-- PRESS, offset 0x14 (R31). -/
  press : Word
  /-- B5, offset 0x18 (R32). -/
  b5 : Word
  /-- CAL0..CAL10, offsets 0x20 to 0x48 (R33). -/
  cal : Vector Half 11
  /-- Latched OP of the running command (R36, R37). -/
  opl : BitVec 4
  /-- Latched B operand. -/
  bl : Byte
  /-- Latched H operand. -/
  hl : Half
  /-- The phase register, read by the host through STATUS.PHASE (R38). -/
  phase : Phase
  /-- Shape of the transaction in progress (R36). -/
  xact : Shape
  /-- Step of a command of several parts (R39). -/
  stage : BitVec 3
  /-- Calibration index during LDCAL. -/
  idx : BitVec 4
  /-- Byte of the first READ. -/
  dhi : Byte
  /-- Byte of the second READ. -/
  dlo : Byte
  /-- Register address of the read in progress. -/
  ra : Byte
  /-- Internal address of the read in progress. -/
  ia : Half
  /-- Control byte of the trigger in progress. -/
  tb : Byte
  /-- Raw value for the compute step of RDTEMP and RDPRES. -/
  rawl : Half
  /-- A read of the running LDCAL has failed. -/
  ffail : Bool
  /-- Status byte of the first failed read. -/
  ffs : Byte
  /-- Phase of the first failed read. -/
  ffp : Phase
  /-- Shape of the first failed read. -/
  ffx : Shape
  /-- Conversion-wait request to the delay timer (R122). -/
  conv : ConvReq
  /-- The request pending at the bus controller; its presence is R81's pending mark. This field and the
  next two are implied by the spec's text (DEDUCED, log entry 3, safe). -/
  busReq : Option BusReq
  /-- The controller's answer, until the sequencer's next step uses it (R19, R146). -/
  busAns : Option BusAns
  /-- The failure of the transaction in progress, from the failed check to the end of STOP (R91's
  ABORT holds it in its local variables). -/
  xfail : Option XFail
  /-- The event history, oldest first (00_scope.md R17). -/
  events : List Event
  /-- Words returned to the host by its reads, with their offsets, oldest first (R49). The model's own
  field (DESIGN CHOICE, log entry 18, safe). -/
  hostReads : List (Byte × Word)
  /-- The configuration (R8), constant in a run (R66). -/
  cfg : Config
  /-- The agents' steps still to come, first one first. With none left only the sequencer moves. The
  model's own field (DESIGN CHOICE, log entry 1, unsafe). -/
  moves : List Move
  deriving DecidableEq, Repr

/-- Why the machine stops with a fault. -/
inductive Fault where
  /-- Raised by a command's meaning, or by the sequencer's turn, in a combination of op, stage, phase
  and answer that no rule of the spec describes and no run from reset reaches (DESIGN CHOICE, log entry
  12). Safe: the step stops where the spec gives none. -/
  | sequencerState
  deriving DecidableEq, Repr

/-- Why the machine refuses a step. -/
inductive Refusal where
  /-- Raised by exec for a command without a meaning. Safe. -/
  | notModelled (mnemonic : String)
  /-- Raised by a host access of another width than 4 bytes or at an offset with off[1:0] ≠ 00, which
  20_memory.md R48 refuses: "the model gives it no meaning and no step" (log entry 11). Safe. -/
  | hostAccess
  deriving DecidableEq, Repr

/-- What a step answers. -/
abbrev Result := Host.Outcome State Fault Refusal

/-- STATUS after reset: every field 0 (R25). -/
def Status.reset : Status where
  busy := false
  done := false
  calValid := false
  b5Valid := false
  reject := false
  failXact := .none
  err := .none
  busStatus := 0
  lastOp := 0
  failPhase := .idle

/-- The machine right after reset (R44, R149): every register 0, nothing pending. The moves are empty (log
entry 1); the history is empty, power-up putting no RESET into it (DESIGN CHOICE, log entry 25, unsafe); the
configuration is the block's own (log entry 8); and the mode of the deasserted conv_req is TEMP (DESIGN
CHOICE, log entry 5, unsafe). -/
def State.reset : State where
  status := Status.reset
  calstat := ⟨0, 0⟩
  result := 0
  temp := 0
  press := 0
  b5 := 0
  cal := Vector.replicate 11 0
  opl := 0
  bl := 0
  hl := 0
  phase := .idle
  xact := .none
  stage := 0
  idx := 0
  dhi := 0
  dlo := 0
  ra := 0
  ia := 0
  tb := 0
  rawl := 0
  ffail := false
  ffs := 0
  ffp := .idle
  ffx := .none
  conv := ⟨false, .temp⟩
  busReq := none
  busAns := none
  xfail := none
  events := []
  hostReads := []
  cfg := Config.block
  moves := []

end Sys2Proof.Machine
end

