-- ==== Sys2Proof/Machine/Flags.lean ====
section
/-! DEFINITION. The numbers of phases, shapes and error codes, and the words the host reads: STATUS,
CALSTAT and the whole register window (10_state.md R24, R25, R28, R38; 60_exceptions.md R129). -/

namespace Sys2Proof.Machine

/-- R38: the number of a phase. -/
def Phase.code : Phase → BitVec 4
  | .idle => 0
  | .start => 1
  | .addrAck => 2
  | .regAck => 3
  | .dataAck => 4
  | .restart => 5
  | .addrRAck => 6
  | .readMsb => 7
  | .readLsbNack => 8
  | .stop => 9
  | .waitConv => 10
  | .compute => 11
  | .initBus => 12

/-- R25 and R36: the number of a transaction shape. -/
def Shape.code : Shape → BitVec 2
  | .none => 0
  | .trig => 1
  | .rdpair => 2

/-- R129: the number of an error code. -/
def ErrCode.code : ErrCode → BitVec 4
  | .none => 0
  | .busPhase => 1
  | .divZero => 2
  | .uncalibrated => 3
  | .illegalCmd => 4
  | .badCal => 5

/-- R25: STATUS as the host reads it, PHASE being the live phase register. -/
def statusWord (s : State) : Word :=
  s.status.failPhase.code ++ s.status.lastOp ++ s.status.busStatus ++ s.phase.code
    ++ s.status.err.code ++ 0#1 ++ s.status.failXact.code ++ BitVec.ofBool s.status.reject
    ++ BitVec.ofBool s.status.b5Valid ++ BitVec.ofBool s.status.calValid
    ++ BitVec.ofBool s.status.done ++ BitVec.ofBool s.status.busy

/-- R28: CALSTAT as the host reads it. -/
def calstatWord (s : State) : Word := 0#5 ++ s.calstat.badValue ++ 0#5 ++ s.calstat.readFail

/-- The registers of the host window (R24). -/
inductive WindowReg where
  | cmd
  | status
  | calstat
  | result
  | temp
  | press
  | b5
  | cal (i : Fin 11)
  deriving DecidableEq, Repr

/-- R24: a register's byte offset. -/
def WindowReg.offset : WindowReg → Byte
  | .cmd => 0x00
  | .status => 0x04
  | .calstat => 0x08
  | .result => 0x0C
  | .temp => 0x10
  | .press => 0x14
  | .b5 => 0x18
  | .cal i => 0x20 + BitVec.ofNat 8 (4 * i)

/-- R24: the register at an aligned offset; none at a reserved one. -/
def windowReg (off : Byte) : Option WindowReg :=
  match off.toNat with
  | 0x00 => some .cmd
  | 0x04 => some .status
  | 0x08 => some .calstat
  | 0x0C => some .result
  | 0x10 => some .temp
  | 0x14 => some .press
  | 0x18 => some .b5
  | n => if h : 0x20 ≤ n ∧ n ≤ 0x48 then some (.cal ⟨(n - 0x20) / 4, by omega⟩) else none

/-- R24 and R49: what a register reads as. -/
def readReg (s : State) : WindowReg → Word
  | .cmd => 0
  | .status => statusWord s
  | .calstat => calstatWord s
  | .result => s.result.zeroExtend 32
  | .temp => s.temp.signExtend 32
  | .press => s.press
  | .b5 => s.b5
  | .cal i => s.cal[i].zeroExtend 32

/-- R49: what HostRead returns at an aligned offset; reserved offsets read 0. -/
def windowRead (s : State) (off : Byte) : Word :=
  match windowReg off with
  | some r => readReg s r
  | none => 0

/-- R48: a host access the model gives a meaning to: 4 bytes, off[1:0] = 00. -/
def accessDefined (off : Byte) (n : Nat) : Bool := n == 4 && off.extractLsb' 0 2 == 0#2

end Sys2Proof.Machine
end

