-- ==== Sys2Proof/Syntax.lean ====
section
/-! DEFINITION. The eight commands of spec/opcode_table.json (30_encoding.md R69, R71) and the
assembler lines of R76 and R77. -/

namespace Sys2Proof

/-- A command, with every operand field of its word (R69), the fields R70 calls ignored among them:
acceptance latches and records the whole word (20_memory.md R53), so no bit may be lost here. -/
inductive Instr where
  /-- INIT: c = B, p = H[7:0]; H[15:8] is ignored. -/
  | init (c : Byte) (p : Byte) (hIgn : Byte)
  /-- TRIG: ctrl = B; H is ignored. -/
  | trig (ctrl : Byte) (hIgn : Half)
  /-- RDPAIR: ra = B, ia = H. -/
  | rdpair (ra : Byte) (ia : Half)
  /-- LDCAL: B and H are ignored. -/
  | ldcal (bIgn : Byte) (hIgn : Half)
  /-- CTEMP: raw = H; B is ignored. -/
  | ctemp (raw : Half) (bIgn : Byte)
  /-- CPRES: raw = H; B is ignored. -/
  | cpres (raw : Half) (bIgn : Byte)
  /-- RDTEMP: B and H are ignored. -/
  | rdtemp (bIgn : Byte) (hIgn : Half)
  /-- RDPRES: B and H are ignored. -/
  | rdpres (bIgn : Byte) (hIgn : Half)
  deriving DecidableEq, Repr

/-- A line of assembler source: the syntax column of R76, the four pseudo-commands of R77 and the
raw word `.word v`. Operands are the numbers the line writes, of any size; WellFormed checks them. -/
inductive AsmLine where
  | init (c p : Nat)
  | trig (ctrl : Nat)
  | rdpair (ra ia : Nat)
  | ldcal
  | ctemp (raw : Nat)
  | cpres (raw : Nat)
  | rdtemp
  | rdpres
  /-- TRIGT: TRIG P_TEMP_CTRL. -/
  | trigt
  /-- TRIGP: TRIG P_PRESS_CTRL. -/
  | trigp
  /-- RDCAL i: RDPAIR of calibration entry i's address pair. -/
  | rdcal (i : Nat)
  /-- RDRES: RDPAIR of the result register pair. -/
  | rdres
  /-- .word v: a raw word, the only way to write an illegal command. -/
  | word (v : Nat)
  deriving DecidableEq, Repr

end Sys2Proof
end

