-- ==== Sys2Proof/WellFormed.lean ====
section
/-! DEFINITION. Which terms are well formed. Every `Instr` is: its fields have exactly the widths of
30_encoding.md R68, so no range is left to check, and R70 lets the ignored fields hold anything.
The range checks of R76 and R77 ("An assembler refuses an operand outside its range") are on
assembler lines. -/

namespace Sys2Proof

/-- R76 and R77: every operand of the line lies in the range its syntax row gives; a raw word has 32
bits (DESIGN CHOICE, log entry 21, safe). -/
def AsmLine.wellFormed : AsmLine → Bool
  | .init c p => c ≤ 255 && p ≤ 255
  | .trig ctrl => ctrl ≤ 255
  | .rdpair ra ia => ra ≤ 255 && ia ≤ 65535
  | .ldcal => true
  | .ctemp raw => raw ≤ 65535
  | .cpres raw => raw ≤ 65535
  | .rdtemp => true
  | .rdpres => true
  | .trigt => true
  | .trigp => true
  | .rdcal i => i ≤ 10
  | .rdres => true
  | .word v => v < 2 ^ 32

/-- R70 and R76: the ignored fields are 0, as software should write them and the assembler does.
No condition on legality: a command with any values there runs (R74). -/
def Instr.canonical : Instr → Bool
  | .init _ _ hIgn => hIgn = 0
  | .trig _ hIgn => hIgn = 0
  | .rdpair _ _ => true
  | .ldcal bIgn hIgn => bIgn = 0 && hIgn = 0
  | .ctemp _ bIgn => bIgn = 0
  | .cpres _ bIgn => bIgn = 0
  | .rdtemp bIgn hIgn => bIgn = 0 && hIgn = 0
  | .rdpres bIgn hIgn => bIgn = 0 && hIgn = 0

end Sys2Proof
end

