-- ==== Sys2Proof/Decode.lean ====
section
/-! DEFINITION. The command word of 30_encoding.md R68: its fields, the decoder (total, R75), the
encoder, the assembler of R76 and R77, and the decoder on the opcode table's bit numbering. -/

namespace Sys2Proof

/-- OP: bits 3:0 (R68). -/
def opField (v : Word) : BitVec 4 := v.extractLsb' 0 4

/-- RSV: bits 7:4 (R68). -/
def rsvField (v : Word) : BitVec 4 := v.extractLsb' 4 4

/-- B: bits 15:8 (R68). -/
def bField (v : Word) : Byte := v.extractLsb' 8 8

/-- H: bits 31:16 (R68). -/
def hField (v : Word) : Half := v.extractLsb' 16 16

/-- The low byte of a halfword: H[7:0], ia[7:0] (R68, R69). -/
def loByte (h : Half) : Byte := h.extractLsb' 0 8

/-- The high byte of a halfword: H[15:8], ia[15:8] (R68, R69). -/
def hiByte (h : Half) : Byte := h.extractLsb' 8 8

/-- A word from its four fields (R68). -/
def packWord (h : Half) (b : Byte) (rsv op : BitVec 4) : Word := h ++ b ++ rsv ++ op

/-- R73: `legal(v)`. -/
def legal (v : Word) : Bool :=
  decide (1 ≤ (opField v).toNat ∧ (opField v).toNat ≤ 8) && rsvField v == 0#4

/-- Why a word is no command (R73). Both are reported as ILLEGAL_CMD. -/
inductive DecodeReject where
  /-- OP = 0 or OP = 9..15. -/
  | illegalOp
  /-- RSV ≠ 0. -/
  | reservedBits
  deriving DecidableEq, Repr

/-- R71, R73 and R75: every word is one of the eight commands or illegal. -/
def decode (v : Word) : Except DecodeReject Instr :=
  if rsvField v ≠ 0#4 then .error .reservedBits
  else match (opField v).toNat with
    | 1 => .ok (.init (bField v) (loByte (hField v)) (hiByte (hField v)))
    | 2 => .ok (.trig (bField v) (hField v))
    | 3 => .ok (.rdpair (bField v) (hField v))
    | 4 => .ok (.ldcal (bField v) (hField v))
    | 5 => .ok (.ctemp (hField v) (bField v))
    | 6 => .ok (.cpres (hField v) (bField v))
    | 7 => .ok (.rdtemp (bField v) (hField v))
    | 8 => .ok (.rdpres (bField v) (hField v))
    | _ => .error .illegalOp

/-- The OP number of a command (R71). -/
def Instr.op : Instr → BitVec 4
  | .init _ _ _ => 0x1#4
  | .trig _ _ => 0x2#4
  | .rdpair _ _ => 0x3#4
  | .ldcal _ _ => 0x4#4
  | .ctemp _ _ => 0x5#4
  | .cpres _ _ => 0x6#4
  | .rdtemp _ _ => 0x7#4
  | .rdpres _ _ => 0x8#4

/-- The B field of a command (R69). -/
def Instr.bOperand : Instr → Byte
  | .init c _ _ => c
  | .trig ctrl _ => ctrl
  | .rdpair ra _ => ra
  | .ldcal bIgn _ => bIgn
  | .ctemp _ bIgn => bIgn
  | .cpres _ bIgn => bIgn
  | .rdtemp bIgn _ => bIgn
  | .rdpres bIgn _ => bIgn

/-- The H field of a command (R69); INIT's is H[15:8] ignored above H[7:0] = p. -/
def Instr.hOperand : Instr → Half
  | .init _ p hIgn => hIgn ++ p
  | .trig _ hIgn => hIgn
  | .rdpair _ ia => ia
  | .ldcal _ hIgn => hIgn
  | .ctemp raw _ => raw
  | .cpres raw _ => raw
  | .rdtemp _ hIgn => hIgn
  | .rdpres _ hIgn => hIgn

/-- The word of a command (R68, R69, R71), RSV = 0. -/
def encode (i : Instr) : Word := packWord i.hOperand i.bOperand 0#4 i.op

/-- 20_memory.md R47: the MSB register address of calibration entry i, on 8 bits. -/
def calAddrHi (c : Config) (i : Nat) : Byte := c.calBase + BitVec.ofNat 8 (2 * i)

/-- 20_memory.md R47: the LSB register address of calibration entry i, on 8 bits. -/
def calAddrLo (c : Config) (i : Nat) : Byte := c.calBase + BitVec.ofNat 8 (2 * i + 1)

/-- The internal address of calibration read i (R47, 41_calibration_compensation.md R107). -/
def calPair (c : Config) (i : Nat) : Half := calAddrHi c i ++ calAddrLo c i

/-- The internal address of the result read (42_composite_reads.md R124). -/
def resPair (c : Config) : Half := c.resMsb ++ c.resLsb

/-- The command a well-formed line stands for (R76, R77); `.word` stands for a word, not a command. -/
def AsmLine.instr (c : Config) : AsmLine → Option Instr
  | .init a p => some (.init (BitVec.ofNat 8 a) (BitVec.ofNat 8 p) 0)
  | .trig ctrl => some (.trig (BitVec.ofNat 8 ctrl) 0)
  | .rdpair ra ia => some (.rdpair (BitVec.ofNat 8 ra) (BitVec.ofNat 16 ia))
  | .ldcal => some (.ldcal 0 0)
  | .ctemp raw => some (.ctemp (BitVec.ofNat 16 raw) 0)
  | .cpres raw => some (.cpres (BitVec.ofNat 16 raw) 0)
  | .rdtemp => some (.rdtemp 0 0)
  | .rdpres => some (.rdpres 0 0)
  | .trigt => some (.trig c.tempCtrl 0)
  | .trigp => some (.trig c.pressCtrl 0)
  | .rdcal i => some (.rdpair (calAddrHi c i) (calPair c i))
  | .rdres => some (.rdpair c.resMsb (resPair c))
  | .word _ => none

/-- The word a line assembles to (R76, R77); none for an operand outside its range. -/
def AsmLine.assemble (c : Config) (l : AsmLine) : Option Word :=
  if l.wellFormed then
    match l with
    | .word v => some (BitVec.ofNat 32 v)
    | l => (l.instr c).map encode
  else none

/-- The word of an instruction whose bits, numbered as spec/opcode_table.json numbers them, are w in
its low nbits and 0 above; none where a bit at 32 or above is set (DESIGN CHOICE, log entry 15, safe). -/
def tableWord (nbits w : Nat) : Option Word :=
  if w % 2 ^ nbits < 2 ^ 32 then some (BitVec.ofNat 32 (w % 2 ^ nbits)) else none

/-- What the decoder reads from such an instruction. -/
def decodeTableWord (nbits w : Nat) : Option Instr :=
  match tableWord nbits w with
  | some v => (decode v).toOption
  | none => none

end Sys2Proof
end

