-- ==== Sys2Proof/Machine/Operands.lean ====
section
/-! DEFINITION. Operands: the 32-bit operators of the compensation rules (41_calibration_compensation.md
R101 to R105), the reading of a calibration entry at a formula site (R106), the raw pressure term
(R116), the calibration table's writes, and the latched command word (10_state.md R37). -/

namespace Sys2Proof.Machine

/-- R103: `a >>s n`, rounding toward −∞. -/
def asr (a : Word) (n : Nat) : Word := a.sshiftRight n

/-- R103: `a >>u n`. -/
def lsr (a : Word) (n : Nat) : Word := a >>> n

/-- R102: `a << n`. -/
def shl (a : Word) (n : Nat) : Word := a <<< n

/-- R104: `a /s b`, truncating toward zero; used only where b ≠ 0. -/
def divS (a b : Word) : Word := a.sdiv b

/-- R104: `a /u b`; used only where b ≠ 0. -/
def divU (a b : Word) : Word := a / b

/-- R105: `a <u b`. -/
def ltU (a b : Word) : Bool := a.toNat < b.toNat

/-- R106: the 32-bit value of a calibration word, under one bit of P_CAL_SIGNED. -/
def calTerm (isSigned : Bool) (w : Half) : Word :=
  if isSigned then w.signExtend 32 else w.zeroExtend 32

/-- R106: `cv(i)`. -/
def cv (c : Config) (cal : Vector Half 11) (i : Fin 11) : Word :=
  calTerm (c.calSigned.getLsbD i) cal[i]

/-- R116: the raw pressure term of the b7 step. -/
def upTerm (c : Config) (raw : Half) : Word :=
  match c.upSource with
  | .raw => raw.zeroExtend 32
  | .literal => 23843#32

/-- R107: `CAL[i] <- v`. -/
def setCal (cal : Vector Half 11) (i : BitVec 4) (v : Half) : Vector Half 11 :=
  cal.setIfInBounds i.toNat v

/-- R107: set bit i of a CALSTAT field. -/
def setBit (m : BitVec 11) (i : BitVec 4) : BitVec 11 := m ||| (1#11 <<< i.toNat)

/-- R107, R109: a word that shows a failed read. -/
def badWord (v : Half) : Bool := v == 0x0000#16 || v == 0xFFFF#16

/-- R55 and R93: the assembled value of a register-pair read, first byte high. -/
def pairValue (s : State) : Half := s.dhi ++ s.dlo

/-- R37: the running command's word as its latches hold it; RSV was 0000, or it would not run (DEDUCED,
log entry 23, safe). -/
def latchedWord (s : State) : Word := packWord s.hl s.bl 0#4 s.opl

/-- R132: `needs_cal(op)`: CTEMP, CPRES, RDTEMP, RDPRES. -/
def needsCal (op : BitVec 4) : Bool := op == 0x5#4 || op == 0x6#4 || op == 0x7#4 || op == 0x8#4

/-- R132: `needs_b5(op)`: CPRES, RDPRES. -/
def needsB5 (op : BitVec 4) : Bool := op == 0x6#4 || op == 0x8#4

end Sys2Proof.Machine
end

