-- ==== Sys2Proof/Machine/Ops.lean ====
section
/-! DEFINITION. The shared operations: the bus-controller port, the two transaction shapes, command
acceptance and completion, errors (this block's exceptions), the conversion wait, and the steps of
the agents. The commands' meanings are built of these. -/

namespace Sys2Proof.Machine

/-! ## The event history and the two ports -/

/-- 00_scope.md R17: `emit E`. -/
def emit (e : Event) (s : State) : State := { s with events := s.events ++ [e] }

/-- 40_bus_transactions.md R81, request step: post r, set the pending mark, emit BP_REQ(r). An answer
held until now is used up. -/
def post (r : BusReq) (s : State) : State :=
  emit (.bpReq r) { s with busReq := some r, busAns := none }

/-- R80: the answer of a request, b being the controller's draw. -/
def answerOf (r : BusReq) (b : Byte) : BusAns :=
  match r with
  | .read => .read b
  | .status => .status b
  | r => .done r

/-- R80: the byte an answer carries, if any. -/
def BusAns.byte : BusAns → Option Byte
  | .done _ => none
  | .read b => some b
  | .status b => some b

/-- R81, answer step: possible only while a request is pending; otherwise nothing changes (DESIGN CHOICE,
log entry 10, safe). -/
def busAnswer (b : Byte) (s : State) : State :=
  match s.busReq with
  | some r =>
    emit (.bpRsp r (answerOf r b).byte) { s with busReq := none, busAns := some (answerOf r b) }
  | none => s

/-- 42_composite_reads.md R122, request step of the conversion wait. -/
def convRequest (m : ConvMode) (s : State) : State :=
  emit (.convReq m) { s with phase := .waitConv, conv := ⟨true, m⟩, busAns := none }

/-- R122, answer step of the delay timer: possible only while conv_req is asserted. -/
def timerAnswer (s : State) : State :=
  if s.conv.valid then
    emit (.convDone s.conv.mode) { s with conv := ⟨false, s.conv.mode⟩ }
  else s

/-- R81 and R122: the sequencer has no step while a request or a conversion wait is pending. -/
def held (s : State) : Bool := s.busReq.isSome || s.conv.valid

/-! ## Acceptance, completion and errors -/

/-- 20_memory.md R54: the completion step, after the command's results are written. -/
def complete (code : ErrCode) (failPhase : Phase) (s : State) : State :=
  emit (.cmdDone code)
    { s with
      status := { s.status with err := code, failPhase := failPhase, busy := false, done := true }
      phase := .idle, stage := 0, xact := .none, busAns := none, xfail := none }

/-- The errors a command ends with (00_scope.md R16, 60_exceptions.md R129). -/
inductive Raised where
  | busPhase (f : XFail)
  | divZero
  | uncalibrated
  | illegalCmd
  | badCal
  deriving DecidableEq, Repr

/-- 60_exceptions.md R138 and R135: error entry, this block's way of taking an exception. Nothing is
vectored; the command completes with the error recorded. -/
def raiseError (e : Raised) (s : State) : State :=
  match e with
  | .busPhase f =>
    complete .busPhase f.phase
      { s with status := { s.status with busStatus := f.status, failXact := f.shape } }
  | .divZero => complete .divZero .compute s
  | .uncalibrated => complete .uncalibrated .idle s
  | .illegalCmd => complete .illegalCmd .idle s
  | .badCal => complete .badCal .idle s

/-- R139: there is no return from an error; the record stays until the next acceptance, whose first
lines (20_memory.md R53) clear it here. -/
def clearRecord (s : State) : State :=
  { s with
    status := { s.status with
      done := false, reject := false, err := .none, busStatus := 0, failPhase := .idle,
      failXact := .none } }

/-- R53 and 10_state.md R37: latch the command word. -/
def latch (v : Word) (s : State) : State :=
  { s with
    status := { s.status with lastOp := opField v }
    opl := opField v, bl := bField v, hl := hField v }

/-- R53, last branch: BUSY is set, and stage, idx and ffail are cleared. -/
def setBusy (s : State) : State :=
  { s with status := { s.status with busy := true }, stage := 0, idx := 0, ffail := false }

/-- R53: what accepting an LDCAL clears (41_calibration_compensation.md R107, R109, R115). -/
def clearCalibration (s : State) : State :=
  { s with
    calstat := ⟨0, 0⟩
    status := { s.status with calValid := false, b5Valid := false } }

/-- R53, last branch: the command starts; its first step is a later step of the sequencer. -/
def startCommand (s : State) : State :=
  if s.opl = 0x4#4 then clearCalibration (setBusy s) else setBusy s

/-- R53, first lines: record cleared, word latched and in the history. -/
def accepted (v : Word) (s : State) : State := emit (.cmdAccepted v) (latch v (clearRecord s))

/-- R53: an accepted command write, in one step. The latched OP is v[3:0], and acceptance has not
touched CAL_VALID or B5_VALID where they are tested. -/
def accept (v : Word) (s : State) : State :=
  if legal v = false then raiseError .illegalCmd (accepted v s)
  else if needsCal (opField v) = true ∧ s.status.calValid = false then
    raiseError .uncalibrated (accepted v s)
  else if needsB5 (opField v) = true ∧ s.status.b5Valid = false then
    raiseError .uncalibrated (accepted v s)
  else startCommand (accepted v s)

/-- R52: a rejected command write. -/
def reject (v : Word) (s : State) : State :=
  emit (.cmdRejected v) { s with status := { s.status with reject := true } }

/-- What a command does in a state: while the block is idle the command is accepted (R53); while it
runs, the sequencer takes the command's next step, unless it is held (R81, R122). DEDUCED, log entry 2,
safe; a held step changes nothing (log entry 10). -/
def runCommand (v : Word) (body : State → Result) (s : State) : Result :=
  if s.status.busy then (if held s then .next s else body s) else .next (accept v s)

/-! ## The two transaction shapes -/

/-- Enter a phase and post its first request (40_bus_transactions.md R90). -/
def enterPhase (p : Phase) (r : BusReq) (s : State) : State := post r { s with phase := p }

/-- R86 and R91's ABORT: a check failed with byte b; go to STOP and issue it. -/
def abort (b : Byte) (s : State) : State :=
  enterPhase .stop .stop { s with xfail := some ⟨b, s.phase, s.xact⟩ }

/-- R84: go on if the check matched, abort otherwise. -/
def check (ok : Bool) (b : Byte) (p : Phase) (r : BusReq) (s : State) : State :=
  if ok then enterPhase p r s else abort b s

/-- One sequencer step inside a transaction. -/
inductive XStep where
  /-- The transaction goes on. -/
  | running (s : State)
  /-- STOP has been answered: the outcome, none for OK. The command decides what comes next. -/
  | ended (f : Option XFail) (s : State)
  /-- No rule describes this combination of phase and answer. -/
  | stuck

/-- The end of a transaction, after STOP's answer: `xact <- NONE` (R91, R92). -/
def endTransaction (s : State) : XStep := .ended s.xfail { s with xact := .none, xfail := none }

/-- R91: `XTRIG(tb)` up to its first request. -/
def startTrig (tb : Byte) (s : State) : State :=
  enterPhase .start .start { s with tb := tb, xact := .trig, xfail := none }

/-- R92: `XREAD(ra, ia)` up to its first request. -/
def startRead (ra : Byte) (ia : Half) (s : State) : State :=
  enterPhase .start .start { s with ra := ra, ia := ia, xact := .rdpair, xfail := none }

/-- R90 and R91: the steps of the trigger shape after its first request. -/
def trigStep (s : State) : XStep :=
  match s.phase, s.busAns with
  | .start, some (.done .start) => .running (post .status s)
  | .start, some (.status b) =>
    .running (check (b == s.cfg.stStart || b == s.cfg.stRestart) b .addrAck (.send s.cfg.devW) s)
  | .addrAck, some (.done (.send _)) => .running (post .status s)
  | .addrAck, some (.status b) =>
    .running (check (b == s.cfg.stAddrWAck) b .regAck (.send s.cfg.ctrlReg) s)
  | .regAck, some (.done (.send _)) => .running (post .status s)
  | .regAck, some (.status b) =>
    .running (check (b == s.cfg.stDataWAck) b .dataAck (.send s.tb) s)
  | .dataAck, some (.done (.send _)) => .running (post .status s)
  | .dataAck, some (.status b) =>
    .running (check (b == s.cfg.stDataWAck) b .stop .stop s)
  | .stop, some (.done .stop) => endTransaction s
  | _, _ => .stuck

/-- R90, R92 and R93: the steps of the read shape after its first request. -/
def readStep (s : State) : XStep :=
  match s.phase, s.busAns with
  | .start, some (.done .start) => .running (post .status s)
  | .start, some (.status b) =>
    .running (check (b == s.cfg.stStart) b .addrAck (.send s.cfg.devW) s)
  | .addrAck, some (.done (.send _)) => .running (post .status s)
  | .addrAck, some (.status b) =>
    .running (check (b == s.cfg.stAddrWAck) b .regAck (.send s.ra) s)
  | .regAck, some (.done (.send _)) => .running (post .status s)
  | .regAck, some (.status b) =>
    .running (check (b == s.cfg.stDataWAck) b .restart .start s)
  | .restart, some (.done .start) => .running (post .status s)
  | .restart, some (.status b) =>
    .running (check (b == s.cfg.stRestart) b .addrRAck (.send s.cfg.devR) s)
  | .addrRAck, some (.done (.send _)) => .running (post .status s)
  | .addrRAck, some (.status b) =>
    .running (check (b == s.cfg.stAddrRAck) b .readMsb (.send (hiByte s.ia)) s)
  | .readMsb, some (.done (.send _)) => .running (post .read s)
  | .readMsb, some (.read b) => .running (post .status { s with dhi := b })
  | .readMsb, some (.status b) =>
    .running (check (b == s.cfg.stDataRAck) b .readLsbNack .noack s)
  | .readLsbNack, some (.done .noack) => .running (post (.send (loByte s.ia)) s)
  | .readLsbNack, some (.done (.send _)) => .running (post .read s)
  | .readLsbNack, some (.read b) => .running (post .status { s with dlo := b })
  | .readLsbNack, some (.status b) =>
    .running (check (b == s.cfg.stDataRNack) b .stop .stop s)
  | .stop, some (.done .stop) => endTransaction s
  | _, _ => .stuck

/-- One step inside a transaction, and what its command does with the outcome. -/
def withTransaction (x : XStep) (onEnd : Option XFail → State → State) : Result :=
  match x with
  | .running s => .next s
  | .ended f s => .next (onEnd f s)
  | .stuck => .fault .sequencerState

/-- The outcome step of a command whose transaction failed or went well (R98, R99, R125): a failure is
recorded as BUS_PHASE, a success goes on. -/
def onOutcome (ok : State → State) (f : Option XFail) (s : State) : State :=
  match f with
  | none => ok s
  | some f => raiseError (.busPhase f) s

/-- The phase change to COMPUTE (41_calibration_compensation.md R114, R120; R125). -/
def enterCompute (s : State) : State := { s with phase := .compute, busAns := none }

/-! ## The agents' steps -/

/-- 70_reset_and_hazards.md R149: the reset input. Every piece of the block's state takes its reset
value; the configuration, the history, the host's own record of its reads and the other agents'
moves are not the block's (DEDUCED, log entry 16, safe). -/
def resetMove (s : State) : State :=
  emit .reset
    { State.reset with
      cfg := s.cfg, events := s.events, hostReads := s.hostReads, moves := s.moves }

/-- 20_memory.md R48 and R49: HostRead, which changes nothing but what the host has been told. -/
def hostRead (off : Byte) (n : Nat) (s : State) : Result :=
  if accessDefined off n then
    .next { s with hostReads := s.hostReads ++ [(off, windowRead s off)] }
  else .refused .hostAccess

/-- R48, R50, R51 and R73: HostWrite. A command word is decoded and, if legal, run by `run`; an illegal
word is accepted and completes at once (R53). -/
def hostWrite (run : Instr → State → Result) (off : Byte) (n : Nat) (v : Word) (s : State) :
    Result :=
  if accessDefined off n then
    if off ≠ WindowReg.cmd.offset then .next s
    else if s.status.busy then .next (reject v s)
    else match decode v with
      | .ok i => run i s
      | .error _ => .next (accept v s)
  else .refused .hostAccess

/-- The sequencer's turn (00_scope.md R7, 20_memory.md R66): while a command runs, one step of the
command its latches hold; while none runs, nothing. -/
def sequencerTurn (run : Instr → State → Result) (s : State) : Result :=
  if s.status.busy then
    match decode (latchedWord s) with
    | .ok i => run i s
    | .error _ => .fault .sequencerState
  else .next s

/-- One move of one agent (00_scope.md R7). -/
def agentMove (run : Instr → State → Result) (m : Move) (s : State) : Result :=
  match m with
  | .hostRead off n => hostRead off n s
  | .hostWrite off n v => hostWrite run off n v s
  | .sequencer => sequencerTurn run s
  | .busAnswer b => .next (busAnswer b s)
  | .timerAnswer => .next (timerAnswer s)
  | .rst => .next (resetMove s)

/-- One step of the whole: the first move of the list is made and leaves it; with no move left, the
sequencer has its turn. -/
def machineStep (run : Instr → State → Result) (s : State) : Result :=
  match s.moves with
  | [] => sequencerTurn run s
  | m :: rest => agentMove run m { s with moves := rest }

/-- The block made idle, as the completion or reset of a running command leaves it; an idle block is
left as it is. Only `State.withFetchWord` uses this (DESIGN CHOICE, log entry 15, safe). -/
def forceIdle (s : State) : State :=
  if s.status.busy then
    { s with
      status := { s.status with busy := false }
      phase := .idle, stage := 0, xact := .none, conv := ⟨false, s.conv.mode⟩
      busReq := none, busAns := none, xfail := none }
  else s

/-! ## Host macros -/

/-- 30_encoding.md R77: `ISSUE word`. -/
def issueMove (v : Word) : Move := .hostWrite WindowReg.cmd.offset 4 v

/-- R77: `GET name`. -/
def getMove (r : WindowReg) : Move := .hostRead r.offset 4

/-- R77: `WAITDONE` repeats `GET STATUS` until this holds: the host's last read was of STATUS and
returned bit 0 = 0. The repeating is the host's own. -/
def waitDoneOver (s : State) : Bool :=
  match s.hostReads.getLast? with
  | some (off, w) => off == WindowReg.status.offset && !w.getLsbD 0
  | none => false

end Sys2Proof.Machine
end

