-- ==== Sys2Proof/Machine/Bus.lean ====
section
/-! DEFINITION. INIT, TRIG and RDPAIR (40_bus_transactions.md R96 to R99). -/

namespace Sys2Proof.Machine

/-- R96: INIT's steps: one request, then completion. It has no check and cannot fail. -/
def initBody (s : State) : Result :=
  match s.phase, s.busAns with
  | .idle, _ => .next (enterPhase .initBus (.init s.bl (loByte s.hl)) s)
  | .initBus, some (.done (.init _ _)) => .next (complete .none .idle s)
  | _, _ => .fault .sequencerState

/-- R96: INIT. -/
def execInit (c p hIgn : Byte) (s : State) : Result :=
  runCommand (encode (.init c p hIgn)) initBody s

/-- R98: TRIG's steps: one trigger, then its outcome. -/
def trigBody (s : State) : Result :=
  if s.xact = .none then .next (startTrig s.bl s)
  else withTransaction (trigStep s) (onOutcome (complete .none .idle))

/-- R98: TRIG. -/
def execTrig (ctrl : Byte) (hIgn : Half) (s : State) : Result :=
  runCommand (encode (.trig ctrl hIgn)) trigBody s

/-- R99: a successful register-pair read writes RESULT and completes. -/
def rdpairDone (s : State) : State := complete .none .idle { s with result := pairValue s }

/-- R99: RDPAIR's steps: one read, then its outcome. -/
def rdpairBody (s : State) : Result :=
  if s.xact = .none then .next (startRead s.bl s.hl s)
  else withTransaction (readStep s) (onOutcome rdpairDone)

/-- R99: RDPAIR. -/
def execRdpair (ra : Byte) (ia : Half) (s : State) : Result :=
  runCommand (encode (.rdpair ra ia)) rdpairBody s

end Sys2Proof.Machine
end

