-- ==== Sys2Proof/Machine/Formulas.lean ====
section
/-! DEFINITION. The two compensation functions of 41_calibration_compensation.md, line by line. -/

namespace Sys2Proof.Machine

/-- R111: x1 of the temperature formula. -/
def tempX1 (c : Config) (cal : Vector Half 11) (raw : Half) : Word :=
  asr ((raw.zeroExtend 32 - cv c cal 5) * cv c cal 4) 15

/-- R111: the denominator of x2. -/
def tempDen (c : Config) (cal : Vector Half 11) (raw : Half) : Word :=
  tempX1 c cal raw + cv c cal 10

/-- R111: `TEMPF(raw)`: the temperature and b5, or none for DivZero (R131). -/
def tempf (c : Config) (cal : Vector Half 11) (raw : Half) : Option (Half × Word) :=
  let x1 := tempX1 c cal raw
  let den := tempDen c cal raw
  if den = 0 then none
  else
    let x2 := divS (shl (cv c cal 9) 11) den
    let b5 := x1 + x2
    let t32 := asr (b5 + 8) 4
    some (t32.extractLsb' 0 16, b5)

/-- R117: b3. -/
def pressB3 (c : Config) (cal : Vector Half 11) (b5 : Word) : Word :=
  let b6 := b5 - 4000
  let sq := asr (b6 * b6) 12
  let x1 := asr (cv c cal 7 * sq) 11
  let x2 := asr (cv c cal 1 * b6) 11
  let x3 := x1 + x2
  asr (cv c cal 0 * 4 + x3) 2

/-- R117: b4. -/
def pressB4 (c : Config) (cal : Vector Half 11) (b5 : Word) : Word :=
  let b6 := b5 - 4000
  let sq := asr (b6 * b6) 12
  let x1 := asr (cv c cal 2 * b6) 13
  let x2 := asr (cv c cal 6 * sq) 16
  let x3 := asr (x1 + x2 + 2) 2
  lsr (cv c cal 3 * (x3 + 32768)) 15

/-- R117: b7. -/
def pressB7 (c : Config) (cal : Vector Half 11) (b5 : Word) (raw : Half) : Word :=
  (upTerm c raw - pressB3 c cal b5) * 50000

/-- R117 and R118: the quotient, taken bit for bit as the signed p; used only where b4 ≠ 0. -/
def pressQuotient (b7 b4 : Word) : Word :=
  if ltU b7 0x80000000#32 then divU (shl b7 1) b4 else shl (divU b7 b4) 1

/-- R117: the correction of p. -/
def pressCorrect (p : Word) : Word :=
  let q := asr p 8
  let x1 := asr (q * q * 3038) 16
  let x2 := asr ((-7357) * p) 16
  p + asr (x1 + x2 + 3791) 4

/-- R117: `PRESF(raw, b5)`, or none for DivZero (R131). -/
def presf (c : Config) (cal : Vector Half 11) (b5 : Word) (raw : Half) : Option Word :=
  let b4 := pressB4 c cal b5
  if b4 = 0 then none
  else some (pressCorrect (pressQuotient (pressB7 c cal b5 raw) b4))

end Sys2Proof.Machine
end

