-- ==== Sys2Proof/Machine/Compensation.lean ====
section
/-! DEFINITION. LDCAL, CTEMP and CPRES (41_calibration_compensation.md R107, R114, R120), and the
compute steps that RDTEMP and RDPRES share with the last two. -/

namespace Sys2Proof.Machine

/-- R107: begin read i of an LDCAL, up to its first request. -/
def startCalRead (i : BitVec 4) (s : State) : State :=
  startRead (calAddrHi s.cfg i.toNat) (calPair s.cfg i.toNat) { s with idx := i, stage := 1 }

/-- R107: a successful read's word goes into the table, and into BAD_VALUE if it is 0x0000 or 0xFFFF. -/
def calReadOk (s : State) : State :=
  emit (.calRead s.idx (.ok (pairValue s)))
    { s with
      cal := setCal s.cal s.idx (pairValue s)
      calstat := { s.calstat with
        badValue := if badWord (pairValue s) then setBit s.calstat.badValue s.idx
          else s.calstat.badValue } }

/-- R107: bit idx of READ_FAIL is set. -/
def markReadFail (s : State) : State :=
  { s with calstat := { s.calstat with readFail := setBit s.calstat.readFail s.idx } }

/-- R107 and R108: the first failed read of an LDCAL is kept for the record. -/
def keepFirstFailure (f : XFail) (s : State) : State :=
  if s.ffail then s
  else { s with ffail := true, ffs := f.status, ffp := f.phase, ffx := f.shape }

/-- R107: a failed read; CAL[idx] keeps its value. -/
def calReadFail (f : XFail) (s : State) : State :=
  emit (.calRead s.idx (.fail f.status)) (keepFirstFailure f (markReadFail s))

/-- R107: the outcome of read idx. -/
def calReadOutcome (f : Option XFail) (s : State) : State :=
  match f with
  | none => calReadOk s
  | some f => calReadFail f s

/-- R107, last lines: the end of an LDCAL. -/
def ldcalFinish (s : State) : State :=
  if s.ffail then raiseError (.busPhase ⟨s.ffs, s.ffp, s.ffx⟩) s
  else if s.calstat.badValue ≠ 0 then raiseError .badCal s
  else complete .none .idle { s with status := { s.status with calValid := true } }

/-- R107: what follows the outcome of read idx in the same step (00_scope.md R19): the next read's
first request, or the end of the command (DEDUCED, log entry 7, unsafe). -/
def calReadNext (s : State) : State :=
  if s.idx.toNat < 10 then startCalRead (s.idx + 1) s else ldcalFinish s

/-- R107: the end of read idx. -/
def calReadEnd (f : Option XFail) (s : State) : State := calReadNext (calReadOutcome f s)

/-- R107: LDCAL's steps. -/
def ldcalBody (s : State) : Result :=
  if s.xact = .none then .next (startCalRead 0 s)
  else withTransaction (readStep s) calReadEnd

/-- R107: LDCAL. -/
def execLdcal (bIgn : Byte) (hIgn : Half) (s : State) : Result :=
  runCommand (encode (.ldcal bIgn hIgn)) ldcalBody s

/-- R114 and R115: the temperature compute step and the completion it is one with. -/
def computeTemp (raw : Half) (s : State) : State :=
  match tempf s.cfg s.cal raw with
  | none => raiseError .divZero s
  | some (t, b) =>
    complete .none .idle
      (emit (.tempResult t b)
        { s with temp := t, b5 := b, status := { s.status with b5Valid := true } })

/-- R120: the pressure compute step and the completion it is one with. -/
def computePress (raw : Half) (s : State) : State :=
  match presf s.cfg s.cal s.b5 raw with
  | none => raiseError .divZero s
  | some p => complete .none .idle (emit (.pressResult p) { s with press := p })

/-- R114 and R120: the two steps of CTEMP and CPRES. -/
def computeBody (compute : Half → State → State) (s : State) : Result :=
  match s.phase with
  | .idle => .next (enterCompute s)
  | .compute => .next (compute s.hl s)
  | _ => .fault .sequencerState

/-- R114: CTEMP. -/
def execCtemp (raw : Half) (bIgn : Byte) (s : State) : Result :=
  runCommand (encode (.ctemp raw bIgn)) (computeBody computeTemp) s

/-- R120: CPRES. -/
def execCpres (raw : Half) (bIgn : Byte) (s : State) : Result :=
  runCommand (encode (.cpres raw bIgn)) (computeBody computePress) s

end Sys2Proof.Machine
end

