-- ==== Sys2Proof/Machine/Composite.lean ====
section
/-! DEFINITION. RDTEMP and RDPRES (42_composite_reads.md R122 to R128). -/

namespace Sys2Proof.Machine

/-- R125, end of a successful result read: RESULT and rawl take the raw value, and COMPUTE follows
(DEDUCED, log entry 22, unsafe). -/
def resultReadDone (s : State) : State :=
  enterCompute { s with result := pairValue s, rawl := pairValue s, stage := 4 }

/-- R125: the steps of a composite read, by stage (10_state.md R39). A transaction begins in the step
after the one that set the stage (DEDUCED, log entry 6, unsafe). -/
def compositeBody (ctrl : Byte) (mode : ConvMode) (compute : Half → State → State) (s : State) :
    Result :=
  if s.stage = 0 then .next { s with stage := 1 }
  else if s.stage = 1 then
    if s.xact = .none then .next (startTrig ctrl s)
    else withTransaction (trigStep s)
      (onOutcome (fun s => convRequest mode { s with stage := 2 }))
  else if s.stage = 2 then .next { s with stage := 3 }
  else if s.stage = 3 then
    if s.xact = .none then .next (startRead s.cfg.resMsb (resPair s.cfg) s)
    else withTransaction (readStep s) (onOutcome resultReadDone)
  else if s.stage = 4 then .next (compute s.rawl s)
  else .fault .sequencerState

/-- R125: RDTEMP. -/
def execRdtemp (bIgn : Byte) (hIgn : Half) (s : State) : Result :=
  runCommand (encode (.rdtemp bIgn hIgn)) (compositeBody s.cfg.tempCtrl .temp computeTemp) s

/-- R126 and R127: RDPRES. -/
def execRdpres (bIgn : Byte) (hIgn : Half) (s : State) : Result :=
  runCommand (encode (.rdpres bIgn hIgn)) (compositeBody s.cfg.pressCtrl .press computePress) s

end Sys2Proof.Machine
end

