-- ==== Sys2Proof/Machine/Dispatch.lean ====
section
/-! DEFINITION. One arm per command of spec/opcode_table.json. -/

namespace Sys2Proof.Machine

def exec (i : Instr) (s : State) : Host.Outcome State Fault Refusal :=
  match i with
  | .init c p hIgn => Sys2Proof.Machine.execInit c p hIgn s
  | .trig ctrl hIgn => Sys2Proof.Machine.execTrig ctrl hIgn s
  | .rdpair ra ia => Sys2Proof.Machine.execRdpair ra ia s
  | .ldcal bIgn hIgn => Sys2Proof.Machine.execLdcal bIgn hIgn s
  | .ctemp raw bIgn => Sys2Proof.Machine.execCtemp raw bIgn s
  | .cpres raw bIgn => Sys2Proof.Machine.execCpres raw bIgn s
  | .rdtemp bIgn hIgn => Sys2Proof.Machine.execRdtemp bIgn hIgn s
  | .rdpres bIgn hIgn => Sys2Proof.Machine.execRdpres bIgn hIgn s

end Sys2Proof.Machine
end

