-- ==== Sys2Proof/Machine/Step.lean ====
section
/-! DEFINITION. The step of the machine, and the placing of a command where the next step runs it. -/

namespace Sys2Proof.Machine

/-- One step of one agent (00_scope.md R6, R7). -/
def step (s : State) : Host.Outcome State Fault Refusal := machineStep exec s

/-- The block fetches nothing (20_memory.md R66): a command comes to run when the host writes its word
to CMD while the block is idle (R51). This makes that write the very next step. A word with a bit
set above bit 31 is no command word and places nothing. -/
def State.withFetchWord (s : State) (nbits w : Nat) : State :=
  match tableWord nbits w with
  | some v => { forceIdle s with moves := issueMove v :: s.moves }
  | none => s

end Sys2Proof.Machine
end

