-- ==== Sys2Proof/Safety.lean ====
section
/-! DEFINITION. What counts as a good state and a good history: the invariants the statements speak of,
and the fair scheduling of 40_bus_transactions.md R83. Nothing here changes what the machine does. -/

namespace Sys2Proof.Machine

/-! ## The control state of a running command -/

/-- The requests of the current phase in the order R90's table lists them. -/
def phaseRequests (s : State) : List BusReq :=
  match s.xact, s.phase with
  | .trig, .start => [.start, .status]
  | .trig, .addrAck => [.send s.cfg.devW, .status]
  | .trig, .regAck => [.send s.cfg.ctrlReg, .status]
  | .trig, .dataAck => [.send s.tb, .status]
  | .trig, .stop => [.stop]
  | .rdpair, .start => [.start, .status]
  | .rdpair, .addrAck => [.send s.cfg.devW, .status]
  | .rdpair, .regAck => [.send s.ra, .status]
  | .rdpair, .restart => [.start, .status]
  | .rdpair, .addrRAck => [.send s.cfg.devR, .status]
  | .rdpair, .readMsb => [.send (hiByte s.ia), .read, .status]
  | .rdpair, .readLsbNack => [.noack, .send (loByte s.ia), .read, .status]
  | .rdpair, .stop => [.stop]
  | _, _ => []

/-- A request is pending, or its answer waits for the sequencer (R81). -/
def Exchanging (r : BusReq) (s : State) : Prop :=
  (s.busReq = some r ∧ s.busAns = none) ∨ (s.busReq = none ∧ ∃ b, s.busAns = some (answerOf r b))

/-- The phases with a status check (60_exceptions.md R130). -/
def Phase.checked : Phase → Bool
  | .start | .addrAck | .regAck | .dataAck | .restart | .addrRAck | .readMsb | .readLsbNack => true
  | _ => false

/-- A transaction of shape x is in progress: the exchange under way is one of its phase's, and a
recorded failure belongs to it. -/
structure InTransaction (x : Shape) (s : State) : Prop where
  shape : s.xact = x
  exchange : ∃ r ∈ phaseRequests s, Exchanging r s
  failure : ∀ f, s.xfail = some f → s.phase = .stop ∧ f.shape = x ∧ f.phase.checked = true
  noWait : s.conv.valid = false

/-- No transaction, no exchange and no conversion wait is under way. -/
structure Quiet (s : State) : Prop where
  noRequest : s.busReq = none
  noAnswer : s.busAns = none
  noFailure : s.xfail = none
  noTransaction : s.xact = .none
  noWait : s.conv.valid = false

/-- Where a running command can stand, by its OP (R96, R98, R99, R107, R114, R120, R125, R126). -/
def CommandAt (s : State) : Prop :=
  match s.opl.toNat with
  | 1 => s.stage = 0 ∧ s.xfail = none ∧ s.xact = .none ∧ s.conv.valid = false ∧
      ((s.phase = .idle ∧ Quiet s) ∨
       (s.phase = .initBus ∧ Exchanging (.init s.bl (loByte s.hl)) s))
  | 2 => s.stage = 0 ∧ ((s.phase = .idle ∧ Quiet s) ∨ (InTransaction .trig s ∧ s.tb = s.bl))
  | 3 => s.stage = 0 ∧
      ((s.phase = .idle ∧ Quiet s) ∨ (InTransaction .rdpair s ∧ s.ra = s.bl ∧ s.ia = s.hl))
  | 4 => (s.stage = 0 ∧ s.idx = 0 ∧ s.phase = .idle ∧ Quiet s) ∨
      (s.stage = 1 ∧ s.idx.toNat ≤ 10 ∧ InTransaction .rdpair s ∧
        s.ra = calAddrHi s.cfg s.idx.toNat ∧ s.ia = calPair s.cfg s.idx.toNat)
  | 5 => s.stage = 0 ∧ Quiet s ∧ (s.phase = .idle ∨ s.phase = .compute)
  | 6 => s.stage = 0 ∧ Quiet s ∧ (s.phase = .idle ∨ s.phase = .compute)
  | 7 => CompositeAt s.cfg.tempCtrl .temp s
  | 8 => CompositeAt s.cfg.pressCtrl .press s
  | _ => False
where
  /-- Where a composite read can stand (R125). -/
  CompositeAt (ctrl : Byte) (mode : ConvMode) (s : State) : Prop :=
    (s.stage = 0 ∧ s.phase = .idle ∧ Quiet s) ∨
    (s.stage = 1 ∧ ((s.phase = .idle ∧ Quiet s) ∨ (InTransaction .trig s ∧ s.tb = ctrl))) ∨
    (s.stage = 2 ∧ s.phase = .waitConv ∧ s.conv.mode = mode ∧ s.tb = ctrl ∧ s.xact = .none ∧
      s.busReq = none ∧ s.busAns = none ∧ s.xfail = none) ∨
    (s.stage = 3 ∧ ((s.phase = .waitConv ∧ Quiet s) ∨
      (InTransaction .rdpair s ∧ s.ra = s.cfg.resMsb ∧ s.ia = resPair s.cfg))) ∨
    (s.stage = 4 ∧ s.phase = .compute ∧ Quiet s)

/-- What an LDCAL has done so far (R107, R108): the reads before idx are in the table and in CALSTAT. -/
structure Loading (s : State) : Prop where
  notValid : s.status.calValid = false
  noB5 : s.status.b5Valid = false
  failFlag : s.ffail = true ↔ s.calstat.readFail ≠ 0
  failKept : s.ffail = true → s.ffx = .rdpair ∧ s.ffp.checked = true
  ahead : ∀ j : Fin 11, s.idx.toNat ≤ j.val →
    s.calstat.readFail.getLsbD j.val = false ∧ s.calstat.badValue.getLsbD j.val = false
  done : ∀ j : Fin 11, j.val < s.idx.toNat → s.calstat.readFail.getLsbD j.val = false →
    s.calstat.badValue.getLsbD j.val = badWord s.cal[j]

/-- FAIL_PHASE's value for each error (R25, R129). -/
def failPhaseFits (e : ErrCode) (p : Phase) : Bool :=
  match e with
  | .busPhase => p.checked
  | .divZero => p == .compute
  | _ => p == .idle

/-- The machine's invariant: 10_state.md R26, and what keeps it. -/
structure Inv (s : State) : Prop where
  /-- R26: BUSY = 1 implies DONE = 0. -/
  busyNotDone : s.status.busy = true → s.status.done = false
  /-- R26: BUSY = 0 implies PHASE = IDLE. -/
  idlePhase : s.status.busy = false → s.phase = .idle
  /-- R26: ERR = BUS_PHASE if and only if FAIL_XACT ≠ 0. -/
  failXactFits : s.status.err = .busPhase ↔ s.status.failXact ≠ .none
  /-- R26: ERR ≠ BUS_PHASE implies BUS_STATUS = 0. -/
  busStatusFits : s.status.err ≠ .busPhase → s.status.busStatus = 0
  /-- R25: FAIL_PHASE fits ERR. -/
  failPhaseLegal : failPhaseFits s.status.err s.status.failPhase = true
  /-- R53: a running command has recorded no error yet. -/
  runningClear : s.status.busy = true → s.status.err = .none
  /-- R54 and R149: between commands nothing is under way. -/
  idleQuiet : s.status.busy = false → Quiet s ∧ s.stage = 0
  /-- R37: LAST_OP is the latched OP. -/
  lastOp : s.status.lastOp = s.opl
  /-- The running command stands where its rule can stand. -/
  running : s.status.busy = true → CommandAt s
  /-- R109: a valid table holds no word that shows a failed read, and CALSTAT is clear. -/
  validTable : s.status.calValid = true →
    s.calstat = ⟨0, 0⟩ ∧ ∀ i : Fin 11, badWord s.cal[i] = false
  /-- R115: a valid b5 belongs to a valid table. -/
  b5OfTable : s.status.b5Valid = true → s.status.calValid = true
  /-- R132: a command runs only with what it needs. -/
  needsMet : s.status.busy = true →
    (needsCal s.opl = true → s.status.calValid = true) ∧
    (needsB5 s.opl = true → s.status.b5Valid = true)
  /-- R107: the progress of an LDCAL. -/
  loading : s.status.busy = true → s.opl = 0x4#4 → Loading s

/-- A state some run from reset reaches, whatever the other agents do and whatever the OPEN parameters
of R8 are: before every step the moves still to come may be replaced by any others. -/
inductive Reachable : State → Prop where
  | reset (c : Config) : Reachable { State.reset with cfg := c }
  | step (s t : State) (ms : List Move) :
      Reachable s → Machine.step { s with moves := ms } = .next t → Reachable t

/-! ## The phase table -/

/-- A row of R90's table with R85's check: the requests of a phase in order, the status bytes that
pass, and the phase that follows with its first request. -/
structure PhaseRow where
  requests : List BusReq
  passes : List Byte
  next : Phase
  nextRequest : BusReq
  deriving DecidableEq, Repr

/-- R90's table with R85's expected bytes, for the shape and phase a state is in; STOP and the phases
outside a transaction have no check and no row. -/
def phaseRow (s : State) : Option PhaseRow :=
  match s.xact, s.phase with
  | .trig, .start => some
      { requests := [.start, .status], passes := [s.cfg.stStart, s.cfg.stRestart],
        next := .addrAck, nextRequest := .send s.cfg.devW }
  | .trig, .addrAck => some
      { requests := [.send s.cfg.devW, .status], passes := [s.cfg.stAddrWAck],
        next := .regAck, nextRequest := .send s.cfg.ctrlReg }
  | .trig, .regAck => some
      { requests := [.send s.cfg.ctrlReg, .status], passes := [s.cfg.stDataWAck],
        next := .dataAck, nextRequest := .send s.tb }
  | .trig, .dataAck => some
      { requests := [.send s.tb, .status], passes := [s.cfg.stDataWAck],
        next := .stop, nextRequest := .stop }
  | .rdpair, .start => some
      { requests := [.start, .status], passes := [s.cfg.stStart],
        next := .addrAck, nextRequest := .send s.cfg.devW }
  | .rdpair, .addrAck => some
      { requests := [.send s.cfg.devW, .status], passes := [s.cfg.stAddrWAck],
        next := .regAck, nextRequest := .send s.ra }
  | .rdpair, .regAck => some
      { requests := [.send s.ra, .status], passes := [s.cfg.stDataWAck],
        next := .restart, nextRequest := .start }
  | .rdpair, .restart => some
      { requests := [.start, .status], passes := [s.cfg.stRestart],
        next := .addrRAck, nextRequest := .send s.cfg.devR }
  | .rdpair, .addrRAck => some
      { requests := [.send s.cfg.devR, .status], passes := [s.cfg.stAddrRAck],
        next := .readMsb, nextRequest := .send (hiByte s.ia) }
  | .rdpair, .readMsb => some
      { requests := [.send (hiByte s.ia), .read, .status], passes := [s.cfg.stDataRAck],
        next := .readLsbNack, nextRequest := .noack }
  | .rdpair, .readLsbNack => some
      { requests := [.noack, .send (loByte s.ia), .read, .status], passes := [s.cfg.stDataRNack],
        next := .stop, nextRequest := .stop }
  | _, _ => none

/-- R93: a READ's byte goes into dhi in READ_MSB and into dlo in READ_LSB_NACK; nothing else of a
state changes where an answer is used. -/
def captureAnswer (a : BusAns) (s : State) : State :=
  match a, s.phase with
  | .read b, .readMsb => { s with dhi := b }
  | .read b, .readLsbNack => { s with dlo := b }
  | _, _ => s

/-- Command i is inside a transaction in a state: TRIG, RDPAIR and LDCAL in the shape they run (R98, R99,
R107), RDTEMP and RDPRES in a trigger at stage 1 or a read at stage 3 (10_state.md R39). -/
def Transacting (i : Instr) (s : State) : Prop :=
  match i with
  | .init _ _ _ => False
  | .trig _ _ => s.xact = .trig
  | .rdpair _ _ => s.xact = .rdpair
  | .ldcal _ _ => s.xact = .rdpair
  | .ctemp _ _ => False
  | .cpres _ _ => False
  | .rdtemp _ _ => (s.stage = 1 ∧ s.xact = .trig) ∨ (s.stage = 3 ∧ s.xact = .rdpair)
  | .rdpres _ _ => (s.stage = 1 ∧ s.xact = .trig) ∨ (s.stage = 3 ∧ s.xact = .rdpair)

/-! ## The event history -/

/-- What the history so far says of the ports: a command is running, a transaction is open (its STOP
not yet requested), a request or a conversion wait is pending; and the requests of the transaction open or
last closed since the command's acceptance, in order. -/
structure Wire where
  running : Bool
  inside : Bool
  pending : Option BusReq
  waiting : Option ConvMode
  asked : List BusReq
  deriving DecidableEq, Repr

/-- Nothing running, nothing pending. -/
def Wire.calm : Wire := ⟨false, false, none, none, []⟩

/-- A command runs, with no transaction open and nothing pending. -/
def Wire.between (w : Wire) : Bool :=
  w.running && !w.inside && w.pending.isNone && w.waiting.isNone

/-- The last request of a transaction since the acceptance was its STOP. -/
def Wire.closed (w : Wire) : Bool := w.asked.getLast? == some .stop

/-- What a request does to the wire: START opens a transaction or repeats its start, STOP closes an
open one, INIT stands outside one, every other request stands inside one (R87, R90, R95). -/
def Wire.request (w : Wire) (r : BusReq) : Option Wire :=
  if w.running && w.pending.isNone && w.waiting.isNone then
    match r with
    | .start => some { w with
        inside := true, pending := some r, asked := if w.inside then w.asked ++ [r] else [r] }
    | .stop => if w.inside then
        some { w with inside := false, pending := some r, asked := w.asked ++ [r] } else none
    | .init _ _ => if w.inside then none else
        some { w with pending := some r, asked := w.asked ++ [r] }
    | _ => if w.inside then some { w with pending := some r, asked := w.asked ++ [r] } else none
  else none

/-- A READ or a STATUS is answered with a byte, nothing else is (R80). -/
def byteExpected : BusReq → Bool
  | .read => true
  | .status => true
  | _ => false

/-- One event on the wire; none where the spec lets no such event happen. A conversion wait and the end of
a calibration read come after the answered STOP of a transaction (R107, R123). -/
def Wire.next (w : Wire) : Event → Option Wire
  | .cmdAccepted _ => if w.running then none else some { w with running := true, asked := [] }
  | .cmdRejected _ => if w.running then some w else none
  | .cmdDone _ => if w.between then some Wire.calm else none
  | .bpReq r => w.request r
  | .bpRsp r a =>
    if w.pending = some r ∧ a.isSome = byteExpected r then some { w with pending := none } else none
  | .convReq m => if w.between && w.closed then some { w with waiting := some m } else none
  | .convDone m => if w.waiting = some m then some { w with waiting := none } else none
  | .calRead _ _ => if w.between && w.closed then some w else none
  | .tempResult _ _ => if w.between then some w else none
  | .pressResult _ => if w.between then some w else none
  | .reset => some Wire.calm

/-- The wire after a whole history, none if some event of it could not happen where it stands. -/
def wireAfter (es : List Event) : Option Wire := es.foldlM Wire.next Wire.calm

/-- R90: the phases of a shape before STOP, in order. -/
def Shape.phases : Shape → List Phase
  | .none => []
  | .trig => [.start, .addrAck, .regAck, .dataAck]
  | .rdpair => [.start, .addrAck, .regAck, .restart, .addrRAck, .readMsb, .readLsbNack]

/-- The list up to and including an element. -/
def upTo {α : Type} [BEq α] (a : α) (l : List α) : List α := l.takeWhile (· != a) ++ [a]

/-- The request of the exchange under way (R81): the pending one, or the one just answered. -/
def currentRequest (s : State) : Option BusReq :=
  match s.busReq, s.busAns with
  | some r, _ => some r
  | none, some (.done r) => some r
  | none, some (.read _) => some .read
  | none, some (.status _) => some .status
  | none, none => none

/-- R90: the requests of a list of phases of a transaction, in order. -/
def requestsOfPhases (ps : List Phase) (s : State) : List BusReq :=
  ps.flatMap fun p => phaseRequests { s with phase := p }

/-- R91 and R92: all the requests of a transaction of shape x that passes every check, its operands being
the ones the state holds. -/
def wholeTransaction (x : Shape) (s : State) : List BusReq :=
  requestsOfPhases x.phases { s with xact := x } ++ [.stop]

/-- R90: the requests that the transaction in progress has made, or the last one of the running command. -/
def askedSoFar (s : State) : List BusReq :=
  match s.xact with
  | .none =>
    if s.phase = .initBus then [.init s.bl (loByte s.hl)]
    else if s.stage = 2 ∨ s.stage = 3 then wholeTransaction .trig s
    else if s.stage = 4 then wholeTransaction .rdpair s
    else []
  | x =>
    if s.phase = .stop then
      match s.xfail with
      | none => wholeTransaction x s
      | some f => requestsOfPhases (upTo f.phase x.phases) s ++ [.stop]
    else
      requestsOfPhases (x.phases.takeWhile (· != s.phase)) s ++
        match currentRequest s with
        | some r => upTo r (phaseRequests s)
        | none => []

/-- What the machine's state says of the wire. -/
def wireOf (s : State) : Wire where
  running := s.status.busy
  inside := s.xact != .none && s.phase != .stop
  pending := s.busReq
  waiting := if s.conv.valid then some s.conv.mode else none
  asked := askedSoFar s

/-- The history is one the rules allow and agrees with the state. -/
def TraceInv (s : State) : Prop := wireAfter s.events = some (wireOf s)

/-- The events of a history after its last CMD_ACCEPTED. -/
def sinceAccepted (es : List Event) : List Event :=
  (es.reverse.takeWhile fun e => match e with
    | .cmdAccepted _ => false
    | _ => true).reverse

/-- The bus events of a history: requests and answers (R81). -/
def busEvents (es : List Event) : List Event :=
  es.filter fun e => match e with
    | .bpReq _ => true
    | .bpRsp _ _ => true
    | _ => false

/-- The requests of a history, in order. -/
def requestsIn (es : List Event) : List BusReq :=
  es.filterMap fun e => match e with
    | .bpReq r => some r
    | _ => none

/-- R91: the nine requests of a trigger that passes every check. -/
def triggerRequests (c : Config) (tb : Byte) : List BusReq :=
  [.start, .status, .send c.devW, .status, .send c.ctrlReg, .status, .send tb, .status, .stop]

/-- What the history says of calibration loads (R109): an LDCAL is running, the reads of the last one
accepted, and whether the last one completed with NONE. -/
structure LoadLog where
  loading : Bool
  reads : List (BitVec 4 × CalRead)
  valid : Bool
  deriving DecidableEq, Repr

/-- One event in that record. -/
def LoadLog.next (l : LoadLog) : Event → LoadLog
  | .cmdAccepted v =>
    if legal v && opField v == 0x4#4 then ⟨true, [], false⟩ else { l with loading := false }
  | .calRead i r => { l with reads := l.reads ++ [(i, r)] }
  | .cmdDone c => if l.loading then ⟨false, l.reads, c == .none⟩ else l
  | .reset => ⟨false, [], false⟩
  | _ => l

/-- The record after a whole history. -/
def loadLog (es : List Event) : LoadLog := es.foldl LoadLog.next ⟨false, [], false⟩

/-- The reads of an LDCAL that put a given table into the block, in index order (R107). -/
def tableReads (cal : Vector Half 11) : List (BitVec 4 × CalRead) :=
  (List.finRange 11).map fun i => (BitVec.ofNat 4 i.val, .ok cal[i])

/-! ## The other agents -/

/-- A host access. -/
def Move.isHost : Move → Bool
  | .hostRead _ _ => true
  | .hostWrite _ _ _ => true
  | _ => false

/-- A move that 20_memory.md R48 does not refuse. -/
def Move.defined : Move → Bool
  | .hostRead off n => accessDefined off n
  | .hostWrite off n _ => accessDefined off n
  | _ => true

/-- An answer step of the bus controller. -/
def Move.isBusAnswer : Move → Bool
  | .busAnswer _ => true
  | _ => false

/-- A state without what a host access can leave behind while a command runs: the REJECT flag, the
rejections in the history, the host's record of its reads, and the moves still to come. -/
def State.withoutHost (s : State) : State :=
  { s with
    status := { s.status with reject := false }
    events := s.events.filter fun e => match e with
      | .cmdRejected _ => false
      | _ => true
    hostReads := []
    moves := [] }

/-! ## Whole commands -/

/-- STATUS after a command that was accepted, ran and completed with the record given (R53, R54). -/
def Status.ended (st : Status) (op : BitVec 4) (e : ErrCode) (b : Byte) (p : Phase) (x : Shape) : Status :=
  { st with
    busy := false, done := true, reject := false, lastOp := op, err := e, busStatus := b,
    failPhase := p, failXact := x }

/-! ## Fair scheduling -/

/-- The agent whose turn it is if every pending request is answered at once (R83): the bus controller
with byte b, the delay timer, or the sequencer. -/
def fairMove (b : Byte) (s : State) : Move :=
  if s.busReq.isSome then .busAnswer b else if s.conv.valid then .timerAnswer else .sequencer

/-- n steps under that schedule. The byte that stands with step k, counted from the start, is `bytes k`,
whatever n is: a longer run goes on from a shorter one. -/
def fairRun (bytes : Nat → Byte) : Nat → State → Result
  | 0, s => .next s
  | n + 1, s =>
    match step { s with moves := [fairMove (bytes 0) s] } with
    | .next t => fairRun (fun k => bytes (k + 1)) n t
    | .fault r => .fault r
    | .refused r => .refused r

/-- The moves of a controller that answers at once, the sequencer moving after each answer. -/
def answering (bs : List Byte) : List Move := bs.flatMap fun b => [.busAnswer b, .sequencer]

/-- The two events of one exchange with the controller (R81). -/
def exchangeEvents (e : BusReq × Byte) : List Event :=
  [.bpReq e.1, .bpRsp e.1 (answerOf e.1 e.2).byte]

/-- The events of a list of exchanges. -/
def tradeEvents (es : List (BusReq × Byte)) : List Event := es.flatMap exchangeEvents

/-- R91: the exchanges of a trigger before its STOP whose answers pass every check; st0 answers the
START check, `o k` are the bytes that stand with requests that return none. -/
def goodTrigger (c : Config) (tb st0 : Byte) (o : Nat → Byte) : List (BusReq × Byte) :=
  [(.start, o 0), (.status, st0),
   (.send c.devW, o 1), (.status, c.stAddrWAck),
   (.send c.ctrlReg, o 2), (.status, c.stDataWAck),
   (.send tb, o 3), (.status, c.stDataWAck)]

/-- R92: the exchanges of a read before its STOP whose answers pass every check and whose two READ
answers are hi and lo. -/
def goodRead (c : Config) (ra : Byte) (ia : Half) (hi lo : Byte) (o : Nat → Byte) :
    List (BusReq × Byte) :=
  [(.start, o 0), (.status, c.stStart),
   (.send c.devW, o 1), (.status, c.stAddrWAck),
   (.send ra, o 2), (.status, c.stDataWAck),
   (.start, o 3), (.status, c.stRestart),
   (.send c.devR, o 4), (.status, c.stAddrRAck),
   (.send (hiByte ia), o 5), (.read, hi), (.status, c.stDataRAck),
   (.noack, o 6), (.send (loByte ia), o 7), (.read, lo), (.status, c.stDataRNack)]

/-- The bytes of a list of exchanges. -/
def tradeBytes (es : List (BusReq × Byte)) : List Byte := es.map Prod.snd

/-- The status checks of a trigger (R91): the place of each in `goodTrigger`, its phase, and the bytes
that pass. -/
def trigChecks (c : Config) : List (Nat × Phase × List Byte) :=
  [(1, .start, [c.stStart, c.stRestart]), (3, .addrAck, [c.stAddrWAck]),
   (5, .regAck, [c.stDataWAck]), (7, .dataAck, [c.stDataWAck])]

/-- The status checks of a read (R92), with their places in `goodRead`. -/
def readChecks (c : Config) : List (Nat × Phase × List Byte) :=
  [(1, .start, [c.stStart]), (3, .addrAck, [c.stAddrWAck]), (5, .regAck, [c.stDataWAck]),
   (7, .restart, [c.stRestart]), (9, .addrRAck, [c.stAddrRAck]), (12, .readMsb, [c.stDataRAck]),
   (16, .readLsbNack, [c.stDataRNack])]

/-- A trade cut short: the check at place n is answered with b. -/
def cutAt (es : List (BusReq × Byte)) (n : Nat) (b : Byte) : List (BusReq × Byte) :=
  es.take n ++ [(.status, b)]

/-! ## What an ignored field could show -/

/-- R69: the part of the B field a command uses. -/
def usedB (op : BitVec 4) (b : Byte) : Byte :=
  if op = 0x1#4 ∨ op = 0x2#4 ∨ op = 0x3#4 then b else 0

/-- R69: the part of the H field a command uses. -/
def usedH (op : BitVec 4) (h : Half) : Half :=
  if op = 0x1#4 then 0#8 ++ loByte h
  else if op = 0x3#4 ∨ op = 0x5#4 ∨ op = 0x6#4 then h
  else 0

/-- A legal word with its ignored fields cleared (R70). -/
def clearIgnored (v : Word) : Word :=
  if legal v then packWord (usedH (opField v) (hField v)) (usedB (opField v) (bField v)) 0#4 (opField v)
  else v

/-- The same for the word an acceptance recorded. -/
def Event.clearIgnored : Event → Event
  | .cmdAccepted v => .cmdAccepted (Machine.clearIgnored v)
  | e => e

/-- A state with the ignored fields of the latched command and of every accepted word cleared. -/
def State.clearIgnored (s : State) : State :=
  { s with
    bl := usedB s.opl s.bl, hl := usedH s.opl s.hl,
    events := s.events.map Event.clearIgnored }

/-! ## The formulas on integers -/

/-- R11, R102: the signed value of the low 32 bits of an integer. -/
def wrap (n : Int) : Int := n.bmod (2 ^ 32)

/-- R11: the unsigned value of the low 32 bits of an integer. -/
def unsigned (n : Int) : Int := n % 2 ^ 32

/-- R106: cv(i) as an integer. -/
def cvInt (c : Config) (cal : Vector Half 11) (i : Fin 11) : Int :=
  if c.calSigned.getLsbD i then cal[i].toInt else cal[i].toNat

/-- R111 under R112's ranges: the temperature formula on exact integers, nothing wrapped; `/` is the
floor of a division by a power of two, `tdiv` truncates (R103, R104). -/
def exactTemp (raw cal4 cal5 cal9 cal10 : Int) : Option (Int × Int) :=
  let x1 := (raw - cal5) * cal4 / 2 ^ 15
  let den := x1 + cal10
  if den = 0 then none
  else
    let b5 := x1 + (cal9 * 2 ^ 11).tdiv den
    some ((b5 + 8) / 2 ^ 4, b5)

/-- R117 on integers, every 32-bit operation wrapped as R102 to R105 and R118 say. -/
def wrappedPress (up : Int) (k : Fin 11 → Int) (b5 : Int) : Option Int :=
  let b6 := wrap (b5 - 4000)
  let sq := wrap (b6 * b6) / 2 ^ 12
  let x3 := wrap (wrap (k 7 * sq) / 2 ^ 11 + wrap (k 1 * b6) / 2 ^ 11)
  let b3 := wrap (wrap (k 0 * 4) + x3) / 2 ^ 2
  let y3 := wrap (wrap (wrap (k 2 * b6) / 2 ^ 13 + wrap (k 6 * sq) / 2 ^ 16) + 2) / 2 ^ 2
  let b4 := unsigned (k 3 * wrap (y3 + 32768)) / 2 ^ 15
  let b7 := unsigned (wrap (up - b3) * 50000)
  if b4 = 0 then none
  else
    let p := if b7 < 2 ^ 31 then wrap (b7 * 2 / b4) else wrap (b7 / b4 * 2)
    let q := p / 2 ^ 8
    let x1 := wrap (wrap (q * q) * 3038) / 2 ^ 16
    let x2 := wrap (-7357 * p) / 2 ^ 16
    some (wrap (p + wrap (wrap (x1 + x2) + 3791) / 2 ^ 4))

end Sys2Proof.Machine
end

