-- ==== Sys2Proof/Certificates/Slice0/Obligations.lean ====
section
/-! DEFINITION. The statements for the provers, in the order of OBLIGATIONS.json. -/

open Sys2Proof Sys2Proof.Machine

/-! ## Encoding -/

/-- 30_encoding.md: no bit of a command word is lost or invented, and exactly the legal words decode. -/
def Obligations.DecodeAndEncodeAgree : Prop :=
  (∀ i : Instr, decode (encode i) = .ok i) ∧
  (∀ (v : Word) (i : Instr), decode v = .ok i → encode i = v) ∧
  (∀ v : Word, (∃ i, decode v = .ok i) ↔ legal v = true)

/-- R71 and R75: which command a word is, by its OP and RSV bits alone, for every one of the 2^32 words. -/
def Obligations.DecodeByOpAndRsv : Prop :=
  ∀ v : Word,
    let op := v.toNat % 16
    let rsv := v.toNat / 16 % 16
    ((rsv ≠ 0 ∨ op = 0 ∨ 9 ≤ op) → ∃ r, decode v = .error r) ∧
    (rsv = 0 → op = 1 → ∃ c p g, decode v = .ok (.init c p g)) ∧
    (rsv = 0 → op = 2 → ∃ c g, decode v = .ok (.trig c g)) ∧
    (rsv = 0 → op = 3 → ∃ a b, decode v = .ok (.rdpair a b)) ∧
    (rsv = 0 → op = 4 → ∃ g h, decode v = .ok (.ldcal g h)) ∧
    (rsv = 0 → op = 5 → ∃ r g, decode v = .ok (.ctemp r g)) ∧
    (rsv = 0 → op = 6 → ∃ r g, decode v = .ok (.cpres r g)) ∧
    (rsv = 0 → op = 7 → ∃ g h, decode v = .ok (.rdtemp g h)) ∧
    (rsv = 0 → op = 8 → ∃ g h, decode v = .ok (.rdpres g h))

/-- R78: the example words, assembled and decoded under the suggested parameters. -/
def Obligations.ExampleWords : Prop :=
  (AsmLine.init 0x04 0x20).assemble Config.suggested = some 0x00200401#32 ∧
  (AsmLine.trig 0x2E).assemble Config.suggested = some 0x00002E02#32 ∧
  AsmLine.trigt.assemble Config.suggested = some 0x00002E02#32 ∧
  (AsmLine.trig 0x34).assemble Config.suggested = some 0x00003402#32 ∧
  AsmLine.trigp.assemble Config.suggested = some 0x00003402#32 ∧
  (AsmLine.rdpair 0xF6 0xF6F7).assemble Config.suggested = some 0xF6F7F603#32 ∧
  AsmLine.rdres.assemble Config.suggested = some 0xF6F7F603#32 ∧
  (AsmLine.rdpair 0xAA 0xAAAB).assemble Config.suggested = some 0xAAABAA03#32 ∧
  (AsmLine.rdcal 0).assemble Config.suggested = some 0xAAABAA03#32 ∧
  (AsmLine.rdpair 0xBE 0xBEBF).assemble Config.suggested = some 0xBEBFBE03#32 ∧
  (AsmLine.rdcal 10).assemble Config.suggested = some 0xBEBFBE03#32 ∧
  AsmLine.ldcal.assemble Config.suggested = some 0x00000004#32 ∧
  (AsmLine.ctemp 27898).assemble Config.suggested = some 0x6CFA0005#32 ∧
  (AsmLine.cpres 23843).assemble Config.suggested = some 0x5D230006#32 ∧
  AsmLine.rdtemp.assemble Config.suggested = some 0x00000007#32 ∧
  AsmLine.rdpres.assemble Config.suggested = some 0x00000008#32 ∧
  (AsmLine.word 0x00000000).assemble Config.suggested = some 0x00000000#32 ∧
  legal 0x00000000#32 = false ∧
  (AsmLine.word 0x00000012).assemble Config.suggested = some 0x00000012#32 ∧
  legal 0x00000012#32 = false ∧
  (AsmLine.word 0xFFFF0009).assemble Config.suggested = some 0xFFFF0009#32 ∧
  legal 0xFFFF0009#32 = false ∧
  decode 0x00200401#32 = .ok (.init 0x04 0x20 0) ∧
  decode 0x00002E02#32 = .ok (.trig 0x2E 0) ∧
  decode 0xF6F7F603#32 = .ok (.rdpair 0xF6 0xF6F7) ∧
  decode 0x00000004#32 = .ok (.ldcal 0 0) ∧
  decode 0x6CFA0005#32 = .ok (.ctemp 27898 0) ∧
  decode 0x5D230006#32 = .ok (.cpres 23843 0) ∧
  decode 0x00000007#32 = .ok (.rdtemp 0 0) ∧
  decode 0x00000008#32 = .ok (.rdpres 0 0)

/-- 30_encoding.md section 4: the number every line assembles to, and that an operand outside its range
is refused. That a raw word's range is 32 bits is the model's choice (log entry 21). -/
def Obligations.AssembledWords : Prop :=
  ∀ (cfg : Config) (a b : Nat),
    (AsmLine.init a b).assemble cfg =
      (if a ≤ 255 ∧ b ≤ 255 then some (BitVec.ofNat 32 (b * 2 ^ 16 + a * 2 ^ 8 + 1)) else none) ∧
    (AsmLine.trig a).assemble cfg =
      (if a ≤ 255 then some (BitVec.ofNat 32 (a * 2 ^ 8 + 2)) else none) ∧
    (AsmLine.rdpair a b).assemble cfg =
      (if a ≤ 255 ∧ b ≤ 65535 then some (BitVec.ofNat 32 (b * 2 ^ 16 + a * 2 ^ 8 + 3)) else none) ∧
    AsmLine.ldcal.assemble cfg = some 4#32 ∧
    (AsmLine.ctemp a).assemble cfg =
      (if a ≤ 65535 then some (BitVec.ofNat 32 (a * 2 ^ 16 + 5)) else none) ∧
    (AsmLine.cpres a).assemble cfg =
      (if a ≤ 65535 then some (BitVec.ofNat 32 (a * 2 ^ 16 + 6)) else none) ∧
    AsmLine.rdtemp.assemble cfg = some 7#32 ∧
    AsmLine.rdpres.assemble cfg = some 8#32 ∧
    AsmLine.trigt.assemble cfg = (AsmLine.trig cfg.tempCtrl.toNat).assemble cfg ∧
    AsmLine.trigp.assemble cfg = (AsmLine.trig cfg.pressCtrl.toNat).assemble cfg ∧
    (AsmLine.rdcal a).assemble cfg =
      (if a ≤ 10 then
        (AsmLine.rdpair ((cfg.calBase.toNat + 2 * a) % 256)
          ((cfg.calBase.toNat + 2 * a) % 256 * 256 + (cfg.calBase.toNat + 2 * a + 1) % 256)).assemble cfg
      else none) ∧
    AsmLine.rdres.assemble cfg =
      (AsmLine.rdpair cfg.resMsb.toNat (cfg.resMsb.toNat * 256 + cfg.resLsb.toNat)).assemble cfg ∧
    (AsmLine.word a).assemble cfg = (if a < 2 ^ 32 then some (BitVec.ofNat 32 a) else none)

/-- R70: two commands that differ only in ignored fields, issued or running in states that differ only
in ignored fields latched or recorded earlier, answer states that differ only in those. -/
def Obligations.IgnoredFieldsHaveNoEffect : Prop :=
  ∀ (i j : Instr) (s s' t : State),
    clearIgnored (encode i) = clearIgnored (encode j) →
    s.clearIgnored = s'.clearIgnored →
    (s.status.busy = true → s.opl = i.op) →
    exec i s = .next t →
    ∃ t', exec j s' = .next t' ∧ t.clearIgnored = t'.clearIgnored

/-! ## Reset and the host window -/

/-- 10_state.md section 9: after reset every host register reads 0 and every internal register is 0 (the
mode that stands beside a deasserted conv_req is the model's choice, log entry 5, and is not stated). -/
def Obligations.ResetValues : Prop :=
  let r := State.reset
  (∀ off : Byte, windowRead r off = 0#32) ∧
  r.status.busy = false ∧ r.status.done = false ∧ r.status.calValid = false ∧
  r.status.b5Valid = false ∧ r.status.reject = false ∧
  (∀ i : Fin 11, r.cal[i] = 0#16) ∧
  r.opl = 0 ∧ r.bl = 0 ∧ r.hl = 0 ∧ r.phase = .idle ∧ r.xact = .none ∧ r.stage = 0 ∧ r.idx = 0 ∧
  r.dhi = 0 ∧ r.dlo = 0 ∧ r.ra = 0 ∧ r.ia = 0 ∧ r.tb = 0 ∧ r.rawl = 0 ∧
  r.ffail = false ∧ r.ffs = 0 ∧ r.ffp = .idle ∧ r.ffx = .none ∧
  r.conv.valid = false ∧ r.busReq = none

/-- 70_reset_and_hazards.md section 1: in any state the reset input gives every register its reset value
in one step, records the event RESET and nothing else, and the block then waits for a command. That the
history before it is kept is log entry 16, and that the sequencer's turn in the waiting block is a step
that changes nothing is the model's choice (log entry 10). -/
def Obligations.ResetStep : Prop :=
  ∀ (s : State) (ms : List Move), s.moves = .rst :: ms →
    ∃ t, step s = .next t ∧
      t.events = s.events ++ [.reset] ∧
      (∀ off : Byte, windowRead t off = 0#32) ∧
      t.opl = 0 ∧ t.bl = 0 ∧ t.hl = 0 ∧ t.phase = .idle ∧ t.xact = .none ∧ t.stage = 0 ∧ t.idx = 0 ∧
      t.dhi = 0 ∧ t.dlo = 0 ∧ t.ra = 0 ∧ t.ia = 0 ∧ t.tb = 0 ∧ t.rawl = 0 ∧
      t.ffail = false ∧ t.ffs = 0 ∧ t.ffp = .idle ∧ t.ffx = .none ∧
      t.conv.valid = false ∧ t.busReq = none ∧
      t.status.busy = false ∧ t.status.done = false ∧ t.status.calValid = false ∧
      t.status.b5Valid = false ∧
      step { t with moves := [.sequencer] } = .next { t with moves := [] }

/-- 70_reset_and_hazards.md section 1: a reset drops the running command. However the controller, the
timer and the sequencer are scheduled afterwards, no answer is taken and no primitive is issued. What the
reset step keeps and that a move with nothing to answer changes nothing are the model's (log entries 16
and 10), as is the mode of the deasserted conv_req in its reset state (log entry 5). -/
def Obligations.ResetDropsTheCommand : Prop :=
  ∀ (s : State) (ms : List Move),
    (∀ m ∈ ms, m = .sequencer ∨ m = .timerAnswer ∨ ∃ b, m = .busAnswer b) →
    core.run (ms.length + 1) { s with moves := .rst :: ms } =
      .next { State.reset with
        cfg := s.cfg, events := s.events ++ [.reset], hostReads := s.hostReads, moves := [] }

/-- 10_state.md sections 1 to 5, 20_memory.md section 2: what a host read returns at every aligned
offset, bit field by bit field, in any state, and that it changes nothing of the block. That the words
returned are kept in a list is the model's choice (log entry 18). -/
def Obligations.HostReadReturns : Prop :=
  ∀ (s : State) (off : Byte) (ms : List Move), off.toNat % 4 = 0 → s.moves = .hostRead off 4 :: ms →
    ∃ v : Word,
      step s = .next { s with moves := ms, hostReads := s.hostReads ++ [(off, v)] } ∧
      (off = 0x00#8 → v = 0) ∧
      (off = 0x04#8 →
        v.getLsbD 0 = s.status.busy ∧ v.getLsbD 1 = s.status.done ∧
        v.getLsbD 2 = s.status.calValid ∧ v.getLsbD 3 = s.status.b5Valid ∧
        v.getLsbD 4 = s.status.reject ∧ v.extractLsb' 5 2 = s.status.failXact.code ∧
        v.getLsbD 7 = false ∧ v.extractLsb' 8 4 = s.status.err.code ∧
        v.extractLsb' 12 4 = s.phase.code ∧ v.extractLsb' 16 8 = s.status.busStatus ∧
        v.extractLsb' 24 4 = s.status.lastOp ∧ v.extractLsb' 28 4 = s.status.failPhase.code) ∧
      (off = 0x08#8 →
        v.extractLsb' 0 11 = s.calstat.readFail ∧ v.extractLsb' 11 5 = 0 ∧
        v.extractLsb' 16 11 = s.calstat.badValue ∧ v.extractLsb' 27 5 = 0) ∧
      (off = 0x0C#8 → v.toNat = s.result.toNat) ∧
      (off = 0x10#8 → v.toInt = s.temp.toInt) ∧
      (off = 0x14#8 → v = s.press) ∧
      (off = 0x18#8 → v = s.b5) ∧
      (off = 0x1C#8 → v = 0) ∧
      (∀ i : Fin 11, off.toNat = 0x20 + 4 * i.val → v.toNat = s.cal[i].toNat) ∧
      (0x4C ≤ off.toNat → v = 0)

/-- R48: exactly the accesses of 4 bytes at an aligned offset have a step. -/
def Obligations.OnlyWordAccessesHaveAStep : Prop :=
  ∀ (s : State) (off : Byte) (n : Nat) (v : Word),
    ((n ≠ 4 ∨ off.toNat % 4 ≠ 0) →
      step { s with moves := [.hostRead off n] } = .refused .hostAccess ∧
      step { s with moves := [.hostWrite off n v] } = .refused .hostAccess) ∧
    ((n = 4 ∧ off.toNat % 4 = 0) →
      (∃ t, step { s with moves := [.hostRead off n] } = .next t) ∧
      (∃ t, step { s with moves := [.hostWrite off n v] } = .next t))

/-- R50: a write to any register but CMD, or to a reserved offset, has no effect. -/
def Obligations.OtherWritesAreIgnored : Prop :=
  ∀ (s : State) (off : Byte) (v : Word) (ms : List Move),
    off.toNat % 4 = 0 → off ≠ 0x00#8 → s.moves = .hostWrite off 4 v :: ms →
    step s = .next { s with moves := ms }

/-- 20_memory.md section 2: a command write while BUSY sets REJECT and records CMD_REJECTED; the latches,
the phase and every other piece of the block's state stay as they are. -/
def Obligations.BusyCommandWriteIsRejected : Prop :=
  ∀ (s : State) (v : Word) (ms : List Move),
    s.status.busy = true → s.moves = .hostWrite 0x00#8 4 v :: ms →
    step s = .next { s with
      moves := ms, status := { s.status with reject := true },
      events := s.events ++ [.cmdRejected v] }

/-- R53: the one step of an accepted command write, written out, but for `busAns` and `xfail`, the model's
own bookkeeping of a transaction (log entry 3), of which nothing is said. -/
def Obligations.AcceptedCommandWrite : Prop :=
  ∀ (s : State) (v : Word) (ms : List Move),
    s.status.busy = false → s.moves = .hostWrite 0x00#8 4 v :: ms →
    let op := v.extractLsb' 0 4
    let base : State := { s with
      moves := ms, opl := op, bl := v.extractLsb' 8 8, hl := v.extractLsb' 16 16,
      status := { s.status with
        done := false, reject := false, err := .none, busStatus := 0, failPhase := .idle,
        failXact := .none, lastOp := op },
      events := s.events ++ [.cmdAccepted v] }
    let ended (e : ErrCode) : State := { base with
      status := { base.status with err := e, done := true },
      phase := .idle, stage := 0, xact := .none,
      events := s.events ++ [.cmdAccepted v, .cmdDone e] }
    let answers (u : State) : Prop :=
      ∃ t, step s = .next t ∧ { t with busAns := s.busAns, xfail := s.xfail } = u
    let needsTable := op = 5#4 ∨ op = 6#4 ∨ op = 7#4 ∨ op = 8#4
    let needsB := op = 6#4 ∨ op = 8#4
    let lacks := (needsTable ∧ s.status.calValid = false) ∨ (needsB ∧ s.status.b5Valid = false)
    (legal v = false → answers (ended .illegalCmd)) ∧
    (legal v = true → lacks → answers (ended .uncalibrated)) ∧
    (legal v = true → ¬ lacks → op ≠ 4#4 →
      answers { base with
        status := { base.status with busy := true }, stage := 0, idx := 0, ffail := false }) ∧
    (legal v = true → op = 4#4 →
      answers { base with
        status := { base.status with busy := true, calValid := false, b5Valid := false },
        stage := 0, idx := 0, ffail := false, calstat := ⟨0, 0⟩ })

/-- R73 and R133: an illegal word completes in its acceptance step with ILLEGAL_CMD, without a bus
primitive or any result; written while BUSY it is only rejected. -/
def Obligations.IllegalWord : Prop :=
  ∀ (s : State) (v : Word) (ms : List Move), s.moves = .hostWrite 0x00#8 4 v :: ms →
    (legal v = true ↔ (1 ≤ v.toNat % 16 ∧ v.toNat % 16 ≤ 8) ∧ v.toNat / 16 % 16 = 0) ∧
    (legal v = false → s.status.busy = false →
      ∃ t, step s = .next t ∧
        t.status.lastOp = v.extractLsb' 0 4 ∧ t.status.err.code = 4#4 ∧ t.status.done = true ∧
        t.status.busy = false ∧ t.status.failPhase = .idle ∧ t.status.busStatus = 0 ∧
        t.status.failXact = .none ∧ t.status.reject = false ∧
        t.status.calValid = s.status.calValid ∧ t.status.b5Valid = s.status.b5Valid ∧
        t.events = s.events ++ [.cmdAccepted v, .cmdDone .illegalCmd] ∧
        t.busReq = s.busReq ∧ t.conv = s.conv ∧
        t.result = s.result ∧ t.temp = s.temp ∧ t.press = s.press ∧ t.b5 = s.b5 ∧ t.cal = s.cal ∧
        t.calstat = s.calstat) ∧
    (s.status.busy = true → ∃ t, step s = .next t ∧ t.status.err = s.status.err ∧
      t.status.lastOp = s.status.lastOp ∧ t.events = s.events ++ [.cmdRejected v])

/-- R132: the commands that need a table or a b5, accepted without it, complete in the accepting step
with UNCALIBRATED and no effect; the others start whatever the two flags are. -/
def Obligations.UncalibratedCommands : Prop :=
  ∀ (i : Instr) (s : State), s.status.busy = false →
    let needsTable := i.op = 5#4 ∨ i.op = 6#4 ∨ i.op = 7#4 ∨ i.op = 8#4
    let needsB := i.op = 6#4 ∨ i.op = 8#4
    ((needsTable ∧ s.status.calValid = false) ∨ (needsB ∧ s.status.b5Valid = false) →
      ∃ t, exec i s = .next t ∧ t.status.err = .uncalibrated ∧ t.status.busy = false ∧
        t.status.done = true ∧ t.status.failPhase = .idle ∧
        t.events = s.events ++ [.cmdAccepted (encode i), .cmdDone .uncalibrated] ∧
        t.busReq = s.busReq ∧ t.conv = s.conv ∧
        t.result = s.result ∧ t.temp = s.temp ∧ t.press = s.press ∧ t.b5 = s.b5 ∧ t.cal = s.cal ∧
        t.calstat = s.calstat) ∧
    ((needsTable → s.status.calValid = true) → (needsB → s.status.b5Valid = true) →
      ∃ t, exec i s = .next t ∧ t.status.busy = true ∧
        t.events = s.events ++ [.cmdAccepted (encode i)])

/-- A step runs the decoded command: at a command write while idle the word written (20_memory.md
section 2), at the sequencer's turn the latched word, which is the word accepted (10_state.md
section 6). That exec is a command's acceptance when idle and its next sequencer step when running is the
model's reading (log entries 2 and 23), and that the sequencer has its turn when no move is left is its
choice (log entry 1). -/
def Obligations.StepRunsTheDecodedCommand : Prop :=
  (∀ (s : State) (v : Word) (i : Instr) (ms : List Move),
    s.status.busy = false → s.moves = .hostWrite 0x00#8 4 v :: ms → decode v = .ok i →
    step s = exec i { s with moves := ms }) ∧
  (∀ (s : State) (i : Instr) (ms : List Move),
    s.status.busy = true → (s.moves = .sequencer :: ms ∨ (s.moves = [] ∧ ms = [])) →
    decode (latchedWord s) = .ok i → step s = exec i { s with moves := ms }) ∧
  (∀ (s t : State) (i : Instr),
    s.status.busy = false → exec i s = .next t → latchedWord t = encode i)

/-- 20_memory.md sections 2 and 6: while a command runs, no host access touches anything but the REJECT
flag and the records of the host, and none of these touches what any other agent's step does. -/
def Obligations.HostCannotDisturb : Prop :=
  (∀ (s t : State) (m : Move), s.status.busy = true → m.isHost = true →
    step { s with moves := [m] } = .next t → t.withoutHost = s.withoutHost) ∧
  (∀ (s s' : State) (m : Move), s.withoutHost = s'.withoutHost → m.isHost = false →
    (∀ t, step { s with moves := [m] } = .next t →
      ∃ t', step { s' with moves := [m] } = .next t' ∧ t.withoutHost = t'.withoutHost))

/-! ## The ports -/

/-- 40_bus_transactions.md section 1: the two steps of a primitive, and the hold between them. That a turn
of the held sequencer, which the spec says has no step, is one that changes nothing is the model's choice
(log entry 10), and that the unused answer is a field of the state is its reading (log entry 3). -/
def Obligations.BusHandshake : Prop :=
  (∀ (s t : State) (ms : List Move),
    s.busReq = none → s.moves = .sequencer :: ms → step s = .next t →
    ∃ es, t.events = s.events ++ es ∧
      (t.busReq = none → ∀ r, .bpReq r ∉ es) ∧
      (∀ r, t.busReq = some r → ∃ es', es = es' ++ [.bpReq r] ∧ ∀ q, .bpReq q ∉ es')) ∧
  (∀ (s : State) (r : BusReq) (b : Byte) (ms : List Move),
    s.busReq = some r → s.moves = .busAnswer b :: ms →
    step s = .next { s with
      moves := ms, busReq := none, busAns := some (answerOf r b),
      events := s.events ++
        [.bpRsp r (if r = .read ∨ r = .status then some b else none)] }) ∧
  (∀ (s : State) (r : BusReq) (i : Instr),
    s.busReq = some r → s.status.busy = true → exec i s = .next s)

/-- 42_composite_reads.md section 1: while conv_req is asserted no command has a step; the timer's answer
deasserts it and records CONV_DONE; with it deasserted the timer has no step. That a step the spec says
an agent does not have changes nothing is the model's choice (log entry 10). -/
def Obligations.ConversionWaitHandshake : Prop :=
  (∀ (s : State) (i : Instr),
    s.conv.valid = true → s.status.busy = true → exec i s = .next s) ∧
  (∀ (s : State) (ms : List Move), s.conv.valid = true → s.moves = .timerAnswer :: ms →
    step s = .next { s with
      moves := ms, conv := { s.conv with valid := false },
      events := s.events ++ [.convDone s.conv.mode] }) ∧
  (∀ (s : State) (ms : List Move), s.conv.valid = false → s.moves = .timerAnswer :: ms →
    step s = .next { s with moves := ms })

/-- 40_bus_transactions.md section 1, 70_reset_and_hazards.md section 3: without the answer, whatever else
happens but a reset, the block stays BUSY in the phase of the request, or in WAIT_CONV; a reset releases
it. That a list with turns of the held sequencer or answers with nothing to answer, which the spec says
are no steps, runs through is the model's choice (log entry 10). -/
def Obligations.NoTimeout : Prop :=
  (∀ (s : State) (r : BusReq) (ms : List Move), Inv s → s.busReq = some r →
    (∀ m ∈ ms, m ≠ .rst ∧ m.isBusAnswer = false ∧ m.defined = true) →
    ∃ t, core.run ms.length { s with moves := ms } = .next t ∧
      t.status.busy = true ∧ t.busReq = some r ∧ t.phase = s.phase) ∧
  (∀ (s : State) (ms : List Move), Inv s → s.conv.valid = true →
    (∀ m ∈ ms, m ≠ .rst ∧ m ≠ .timerAnswer ∧ m.defined = true) →
    ∃ t, core.run ms.length { s with moves := ms } = .next t ∧
      t.status.busy = true ∧ t.conv.valid = true ∧ t.phase = .waitConv) ∧
  (∀ s : State, ∃ t, step { s with moves := [.rst] } = .next t ∧
    t.status.busy = false ∧ t.busReq = none ∧ t.conv.valid = false ∧ t.phase = .idle)

/-- R84 and R85, for every command with a transaction: the next request of a phase follows the answer of
the one before it; the status byte is compared whole with the bytes the table names; a match begins the
next phase with its first request, any other byte goes to STOP with that byte and that phase kept. -/
def Obligations.PhaseTable : Prop :=
  ∀ (i : Instr) (s : State) (row : PhaseRow),
    s.status.busy = true → held s = false → Transacting i s → phaseRow s = some row →
    (∀ (k : Nat) (r r' : BusReq) (b : Byte),
      row.requests[k]? = some r → row.requests[k + 1]? = some r' → s.busAns = some (answerOf r b) →
      exec i s = .next (post r' (captureAnswer (answerOf r b) s))) ∧
    (∀ b : Byte, s.busAns = some (.status b) →
      (b ∈ row.passes →
        exec i s = .next (post row.nextRequest { s with phase := row.next })) ∧
      (b ∉ row.passes →
        exec i s = .next (post .stop
          { s with phase := .stop, xfail := some ⟨b, s.phase, s.xact⟩ })))

/-! ## INIT, TRIG and RDPAIR -/

/-- 40_bus_transactions.md section 4, INIT: its one primitive carries c and p unchanged, and its answer
completes the command with NONE. -/
def Obligations.InitSteps : Prop :=
  ∀ (c p g : Byte) (s : State),
    s.status.busy = true → held s = false → s.bl = c → s.hl = g ++ p →
    (s.phase = .idle →
      exec (.init c p g) s = .next { s with
        phase := .initBus, busReq := some (.init c p), busAns := none,
        events := s.events ++ [.bpReq (.init c p)] }) ∧
    (s.phase = .initBus → s.busAns = some (.done (.init c p)) →
      exec (.init c p g) s = .next { s with
        status := { s.status with err := .none, failPhase := .idle, busy := false, done := true },
        phase := .idle, stage := 0, xact := .none, busAns := none, xfail := none,
        events := s.events ++ [.cmdDone .none] })

/-- 40_bus_transactions.md section 4, TRIG: its first request, and its completion after STOP's answer,
with NONE or with the failure of its transaction. -/
def Obligations.TrigSteps : Prop :=
  ∀ (ctrl : Byte) (g : Half) (s : State), s.status.busy = true → held s = false → s.bl = ctrl →
    (s.xact = .none →
      exec (.trig ctrl g) s = .next { s with
        tb := ctrl, xact := .trig, xfail := none, phase := .start,
        busReq := some .start, busAns := none, events := s.events ++ [.bpReq .start] }) ∧
    (s.xact ≠ .none → s.phase = .stop → s.busAns = some (.done .stop) →
      (s.xfail = none →
        exec (.trig ctrl g) s = .next { s with
          status := { s.status with err := .none, failPhase := .idle, busy := false, done := true },
          phase := .idle, stage := 0, xact := .none, busAns := none, xfail := none,
          events := s.events ++ [.cmdDone .none] }) ∧
      (∀ f, s.xfail = some f →
        exec (.trig ctrl g) s = .next { s with
          status := { s.status with
            err := .busPhase, busStatus := f.status, failPhase := f.phase, failXact := f.shape,
            busy := false, done := true },
          phase := .idle, stage := 0, xact := .none, busAns := none, xfail := none,
          events := s.events ++ [.cmdDone .busPhase] }))

/-- 40_bus_transactions.md section 4, RDPAIR: its first request, and its completion after STOP's answer:
RESULT takes the two bytes, first byte high, on success only. -/
def Obligations.RdpairSteps : Prop :=
  ∀ (ra : Byte) (ia : Half) (s : State),
    s.status.busy = true → held s = false → s.bl = ra → s.hl = ia →
    (s.xact = .none →
      exec (.rdpair ra ia) s = .next { s with
        ra := ra, ia := ia, xact := .rdpair, xfail := none, phase := .start,
        busReq := some .start, busAns := none, events := s.events ++ [.bpReq .start] }) ∧
    (s.xact ≠ .none → s.phase = .stop → s.busAns = some (.done .stop) →
      (s.xfail = none →
        exec (.rdpair ra ia) s = .next { s with
          result := s.dhi ++ s.dlo,
          status := { s.status with err := .none, failPhase := .idle, busy := false, done := true },
          phase := .idle, stage := 0, xact := .none, busAns := none, xfail := none,
          events := s.events ++ [.cmdDone .none] }) ∧
      (∀ f, s.xfail = some f →
        exec (.rdpair ra ia) s = .next { s with
          status := { s.status with
            err := .busPhase, busStatus := f.status, failPhase := f.phase, failXact := f.shape,
            busy := false, done := true },
          phase := .idle, stage := 0, xact := .none, busAns := none, xfail := none,
          events := s.events ++ [.cmdDone .busPhase] }))

/-- R91 and R98: a whole TRIG, from the command write to its completion, under a controller that answers
at once: the exact primitives, 9 on success and 2·k + 1 for a failure at check k, one STOP, and the
outcome; nothing else of the state changes, but for the register tb, of whose value after the command
nothing is said. -/
def Obligations.TrigRun : Prop :=
  ∀ (s : State) (ctrl : Byte) (g : Half) (st0 : Byte) (o : Nat → Byte) (last : Byte),
    s.status.busy = false → Quiet s → (st0 = s.cfg.stStart ∨ st0 = s.cfg.stRestart) →
    let start (es : List (BusReq × Byte)) : State := { s with
      moves := issueMove (encode (.trig ctrl g)) :: .sequencer :: answering (tradeBytes es ++ [last]) }
    let finish (es : List (BusReq × Byte)) (e : ErrCode) (b : Byte) (p : Phase) (x : Shape) : State :=
      { s with
        moves := [], status := s.status.ended 2 e b p x, opl := 2, bl := ctrl, hl := g,
        phase := .idle, stage := 0, idx := 0, ffail := false,
        events := s.events ++ .cmdAccepted (encode (.trig ctrl g)) ::
          tradeEvents (es ++ [(.stop, last)]) ++ [.cmdDone e] }
    let good := goodTrigger s.cfg ctrl st0 o
    (∃ t, core.run 20 (start good) = .next t ∧
      { t with tb := s.tb } = finish good .none 0 .idle .none) ∧
    (∀ (n : Nat) (ph : Phase) (pass : List Byte) (b : Byte),
      (n, ph, pass) ∈ trigChecks s.cfg → b ∉ pass →
      ∃ t, core.run (2 * n + 6) (start (cutAt good n b)) = .next t ∧
        { t with tb := s.tb } = finish (cutAt good n b) .busPhase b ph .trig)

/-- R92 and R99: a whole RDPAIR in the same way: 18 primitives on success, the count of R92 for a failure
at each check, RESULT written on success only; of the addresses and bytes that ra, ia, dhi and dlo hold
after the command nothing is said. -/
def Obligations.RdpairRun : Prop :=
  ∀ (s : State) (ra : Byte) (ia : Half) (hi lo : Byte) (o : Nat → Byte) (last : Byte),
    s.status.busy = false → Quiet s →
    let start (es : List (BusReq × Byte)) : State := { s with
      moves := issueMove (encode (.rdpair ra ia)) :: .sequencer ::
        answering (tradeBytes es ++ [last]) }
    let finish (es : List (BusReq × Byte)) (res : Half) (e : ErrCode) (b : Byte) (p : Phase)
        (x : Shape) : State :=
      { s with
        moves := [], status := s.status.ended 3 e b p x, opl := 3, bl := ra, hl := ia, result := res,
        phase := .idle, stage := 0, idx := 0, ffail := false,
        events := s.events ++ .cmdAccepted (encode (.rdpair ra ia)) ::
          tradeEvents (es ++ [(.stop, last)]) ++ [.cmdDone e] }
    let good := goodRead s.cfg ra ia hi lo o
    (∃ t, core.run 38 (start good) = .next t ∧
      { t with ra := s.ra, ia := s.ia, dhi := s.dhi, dlo := s.dlo } =
        finish good (hi ++ lo) .none 0 .idle .none) ∧
    (∀ (n : Nat) (ph : Phase) (pass : List Byte) (b : Byte),
      (n, ph, pass) ∈ readChecks s.cfg → b ∉ pass →
      ∃ t, core.run (2 * n + 6) (start (cutAt good n b)) = .next t ∧
        { t with ra := s.ra, ia := s.ia, dhi := s.dhi, dlo := s.dlo } =
          finish (cutAt good n b) s.result .busPhase b ph .rdpair)

/-! ## LDCAL -/

/-- 41_calibration_compensation.md section 2: what the end of read idx of an LDCAL leaves in the table, in
CALSTAT, in the history and in the registers that keep the first failure. -/
def Obligations.LdcalReadOutcome : Prop :=
  ∀ (g : Byte) (h : Half) (s : State),
    s.status.busy = true → held s = false → s.xact = .rdpair → s.phase = .stop →
    s.busAns = some (.done .stop) → s.idx.toNat ≤ 10 →
    ∃ t, exec (.ldcal g h) s = .next t ∧
      (s.xfail = none →
        (∀ j : Fin 11, t.cal[j] = if j.val = s.idx.toNat then s.dhi ++ s.dlo else s.cal[j]) ∧
        t.calstat.readFail = s.calstat.readFail ∧
        (∀ j : Fin 11, t.calstat.badValue.getLsbD j.val =
          (s.calstat.badValue.getLsbD j.val ||
            (j.val == s.idx.toNat && (s.dhi ++ s.dlo == 0x0000#16 || s.dhi ++ s.dlo == 0xFFFF#16)))) ∧
        (∃ es, t.events = s.events ++ .calRead s.idx (.ok (s.dhi ++ s.dlo)) :: es) ∧
        t.ffail = s.ffail ∧ t.ffs = s.ffs ∧ t.ffp = s.ffp ∧ t.ffx = s.ffx) ∧
      (∀ f, s.xfail = some f →
        t.cal = s.cal ∧ t.calstat.badValue = s.calstat.badValue ∧
        (∀ j : Fin 11, t.calstat.readFail.getLsbD j.val =
          (s.calstat.readFail.getLsbD j.val || j.val == s.idx.toNat)) ∧
        (∃ es, t.events = s.events ++ .calRead s.idx (.fail f.status) :: es) ∧
        t.ffail = true ∧
        (s.ffail = false → t.ffs = f.status ∧ t.ffp = f.phase ∧ t.ffx = f.shape) ∧
        (s.ffail = true → t.ffs = s.ffs ∧ t.ffp = s.ffp ∧ t.ffx = s.ffx))

/-- 41_calibration_compensation.md section 2: an LDCAL begins with read 0, and after read idx < 10,
whatever its outcome, with read idx + 1: START requested, the addresses base + 2·i and base + 2·i + 1
on 8 bits. Nothing completes before read 10. That the end of a read and the next request are one step is
the model's reading (log entry 7). -/
def Obligations.LdcalNextRead : Prop :=
  ∀ (g : Byte) (h : Half) (s : State), s.status.busy = true → held s = false →
    let begun (t : State) (i : Nat) : Prop :=
      t.status = s.status ∧ t.idx.toNat = i ∧ t.stage = 1 ∧ t.phase = .start ∧ t.xact = .rdpair ∧
      t.busReq = some .start ∧ t.xfail = none ∧
      t.ra.toNat = (s.cfg.calBase.toNat + 2 * i) % 256 ∧
      t.ia.toNat = (s.cfg.calBase.toNat + 2 * i) % 256 * 256 +
        (s.cfg.calBase.toNat + 2 * i + 1) % 256 ∧
      ∃ es, t.events = s.events ++ es ++ [.bpReq .start]
    (s.xact = .none → ∃ t, exec (.ldcal g h) s = .next t ∧ begun t 0 ∧ t.cal = s.cal ∧
      t.calstat = s.calstat) ∧
    (s.xact ≠ .none → s.phase = .stop → s.busAns = some (.done .stop) → s.idx.toNat < 10 →
      ∃ t, exec (.ldcal g h) s = .next t ∧ begun t (s.idx.toNat + 1))

/-- 41_calibration_compensation.md section 2 and 60_exceptions.md section 2: the end of read 10 completes
the LDCAL: BUS_PHASE with the first failure if any read failed (whatever BAD_VALUE holds), else BAD_CAL
if BAD_VALUE is not 0, else NONE with CAL_VALID set. -/
def Obligations.LdcalCompletion : Prop :=
  ∀ (g : Byte) (h : Half) (s : State),
    s.status.busy = true → held s = false → s.xact = .rdpair → s.phase = .stop →
    s.busAns = some (.done .stop) → s.idx.toNat = 10 →
    ∃ t, exec (.ldcal g h) s = .next t ∧
      t.status.busy = false ∧ t.status.done = true ∧ t.phase = .idle ∧ t.stage = 0 ∧
      t.xact = .none ∧ t.busReq = none ∧ t.status.b5Valid = s.status.b5Valid ∧
      (∃ es, t.events = s.events ++ es ++ [.cmdDone t.status.err]) ∧
      (∀ f, s.xfail = some f → s.ffail = false →
        t.status.err = .busPhase ∧ t.status.busStatus = f.status ∧ t.status.failPhase = f.phase ∧
        t.status.failXact = f.shape ∧ t.status.calValid = s.status.calValid) ∧
      (s.ffail = true →
        t.status.err = .busPhase ∧ t.status.busStatus = s.ffs ∧ t.status.failPhase = s.ffp ∧
        t.status.failXact = s.ffx ∧ t.status.calValid = s.status.calValid) ∧
      (s.xfail = none → s.ffail = false →
        t.status.busStatus = s.status.busStatus ∧ t.status.failXact = s.status.failXact ∧
        t.status.failPhase = .idle ∧
        (t.calstat.badValue ≠ 0 →
          t.status.err = .badCal ∧ t.status.calValid = s.status.calValid) ∧
        (t.calstat.badValue = 0 → t.status.err = .none ∧ t.status.calValid = true))

/-- 41_calibration_compensation.md section 2: a whole LDCAL whose reads all pass their checks. Whatever
the table held, its eleven entries are the words read, first byte high, in index order, from the
addresses of 20_memory.md section 1; 198 primitives; CAL_VALID and ERR tell whether a word was 0x0000
or 0xFFFF, CALSTAT which. The number of steps rests on log entry 7. -/
def Obligations.LdcalRun : Prop :=
  ∀ (s : State) (g : Byte) (h : Half) (w : Fin 11 → Half) (o : Fin 11 → Nat → Byte)
      (last : Fin 11 → Byte),
    s.status.busy = false → Quiet s →
    let read (i : Fin 11) : List (BusReq × Byte) :=
      goodRead s.cfg (calAddrHi s.cfg i.val) (calPair s.cfg i.val) (hiByte (w i)) (loByte (w i)) (o i)
    let bad := ∃ i : Fin 11, w i = 0x0000#16 ∨ w i = 0xFFFF#16
    ∃ t, core.run 398 { s with
        moves := issueMove (encode (.ldcal g h)) :: .sequencer ::
          (List.finRange 11).flatMap fun i => answering (tradeBytes (read i) ++ [last i]) } = .next t ∧
      (∀ i : Fin 11, t.cal[i] = w i) ∧
      t.calstat.readFail = 0 ∧
      (∀ i : Fin 11, t.calstat.badValue.getLsbD i.val = true ↔ w i = 0x0000#16 ∨ w i = 0xFFFF#16) ∧
      t.status.busy = false ∧ t.status.done = true ∧ t.status.b5Valid = false ∧
      (bad → t.status.err = .badCal ∧ t.status.calValid = false) ∧
      (¬ bad → t.status.err = .none ∧ t.status.calValid = true) ∧
      t.result = s.result ∧ t.temp = s.temp ∧ t.press = s.press ∧ t.b5 = s.b5 ∧
      t.events = s.events ++ .cmdAccepted (encode (.ldcal g h)) ::
        ((List.finRange 11).flatMap fun i =>
          tradeEvents (read i ++ [(.stop, last i)]) ++ [.calRead (BitVec.ofNat 4 i.val) (.ok (w i))]) ++
        [.cmdDone t.status.err]

/-- R109: CAL_VALID in every reachable state is what the history says: 1 exactly when the last LDCAL
accepted since reset has completed with NONE, which is when its eleven reads all succeeded, gave the
table's words, and none of these is 0x0000 or 0xFFFF. -/
def Obligations.CalValidTellsTheLastLoad : Prop :=
  ∀ s : State, Reachable s →
    s.status.calValid = (loadLog s.events).valid ∧
    (s.status.calValid = true ↔
      (loadLog s.events).reads = tableReads s.cal ∧
      ∀ i : Fin 11, s.cal[i] ≠ 0x0000#16 ∧ s.cal[i] ≠ 0xFFFF#16)

/-! ## Arithmetic and the two formulas -/

/-- R102, R103, R104 and R105: the 32-bit operators as functions of the integers, and that a zero divisor
gives no value. -/
def Obligations.ArithmeticOperators : Prop :=
  (∀ a b : Word,
    a + b = BitVec.ofNat 32 (a.toNat + b.toNat) ∧ a + b = BitVec.ofInt 32 (a.toInt + b.toInt) ∧
    a - b = BitVec.ofInt 32 ((a.toNat : Int) - b.toNat) ∧
    a - b = BitVec.ofInt 32 (a.toInt - b.toInt) ∧
    a * b = BitVec.ofNat 32 (a.toNat * b.toNat) ∧ a * b = BitVec.ofInt 32 (a.toInt * b.toInt)) ∧
  (∀ (a : Word) (n : Nat), n ≤ 31 →
    shl a n = BitVec.ofNat 32 (a.toNat * 2 ^ n) ∧
    asr a n = BitVec.ofInt 32 (a.toInt / 2 ^ n) ∧
    lsr a n = BitVec.ofNat 32 (a.toNat / 2 ^ n)) ∧
  (∀ a b : Word, b ≠ 0 →
    divS a b = BitVec.ofInt 32
      (a.toInt.sign * b.toInt.sign * ((a.toInt.natAbs / b.toInt.natAbs : Nat) : Int)) ∧
    divU a b = BitVec.ofNat 32 (a.toNat / b.toNat)) ∧
  (∀ a b : Word, ltU a b = true ↔ a.toNat < b.toNat) ∧
  (∀ (c : Config) (cal : Vector Half 11) (raw : Half) (b5 : Word),
    (tempf c cal raw = none ↔
      asr ((raw.zeroExtend 32 - cv c cal 5) * cv c cal 4) 15 + cv c cal 10 = 0) ∧
    (presf c cal b5 raw = none ↔ pressB4 c cal b5 = 0))

/-- 41_calibration_compensation.md section 1: the reading of a calibration entry at a formula site, and
the default of P_CAL_SIGNED, which the block has. -/
def Obligations.CalibrationReading : Prop :=
  (∀ (c : Config) (cal : Vector Half 11) (i : Fin 11),
    (c.calSigned.getLsbD i.val = true → (cv c cal i).toInt = cal[i].toInt) ∧
    (c.calSigned.getLsbD i.val = false → (cv c cal i).toInt = cal[i].toNat)) ∧
  (∀ i : Fin 11, Config.block.calSigned.getLsbD i.val = true ↔
    i.val ∈ [0, 1, 2, 4, 6, 7, 8, 9]) ∧
  Config.block.upSource = .raw

/-- 41_calibration_compensation.md section 3: under the default signedness the temperature formula is the
formula on exact integers, with only the final 16 bits cut: no 32-bit intermediate wraps. -/
def Obligations.TemperatureIsTheExactFormula : Prop :=
  ∀ (c : Config) (cal : Vector Half 11) (raw : Half), c.calSigned = Config.defaultSigned →
    (exactTemp raw.toNat cal[4].toInt cal[5].toNat cal[9].toInt cal[10].toNat = none →
      tempf c cal raw = none) ∧
    (∀ t32 b5 : Int,
      exactTemp raw.toNat cal[4].toInt cal[5].toNat cal[9].toInt cal[10].toNat = some (t32, b5) →
      ∃ b : Word, tempf c cal raw = some (BitVec.ofInt 16 t32, b) ∧ b.toInt = b5)

/-- 41_calibration_compensation.md section 4: the pressure formula as integers, each 32-bit operation
wrapped once, for every signedness and both raw-term sources. -/
def Obligations.PressureIsTheWrappedFormula : Prop :=
  ∀ (c : Config) (cal : Vector Half 11) (b5 : Word) (raw : Half),
    (presf c cal b5 raw).map BitVec.toInt =
      wrappedPress (match c.upSource with | .raw => (raw.toNat : Int) | .literal => 23843)
        (cvInt c cal) b5.toInt

/-- R118: the pressure quotient's 32 bits are taken as the signed p. -/
def Obligations.PressureQuotientBits : Prop :=
  ∀ b7 b4 : Word, b4 ≠ 0 →
    (b7.toNat < 0x80000000 → (pressQuotient b7 b4).toNat = b7.toNat * 2 / b4.toNat) ∧
    (0x80000000 ≤ b7.toNat → (pressQuotient b7 b4).toNat = b7.toNat / b4.toNat * 2 % 2 ^ 32) ∧
    (2 ^ 31 ≤ (pressQuotient b7 b4).toNat → (pressQuotient b7 b4).toInt < 0) ∧
    (b7.toNat < 0x80000000 → 2 ^ 31 ≤ (pressQuotient b7 b4).toNat →
      b4.toNat = 1 ∧ 2 ^ 30 ≤ b7.toNat)

/-- R121: the two functions depend on their arguments, P_CAL_SIGNED and P_UP_SOURCE alone. -/
def Obligations.FormulasArePure : Prop :=
  ∀ (c c' : Config) (cal : Vector Half 11) (raw : Half) (b5 : Word), c.calSigned = c'.calSigned →
    tempf c cal raw = tempf c' cal raw ∧
    (c.upSource = c'.upSource → presf c cal b5 raw = presf c' cal b5 raw)

/-- 00_scope.md R9's two published results, under the default signedness and either raw-term source. -/
def Obligations.SampleResults : Prop :=
  ∀ c : Config, c.calSigned = Config.defaultSigned →
    let sample : Vector Half 11 :=
      #v[408, 65464, 51153, 32741, 32757, 23153, 6190, 4, 32768, 56825, 2868]
    tempf c sample 27898 = some (150#16, 2400#32) ∧ presf c sample 2400 23843 = some 69964#32

/-- 41_calibration_compensation.md section 3, CTEMP's corner case: with a valid table and the default
signedness, the raw value cal[5] never divides by zero. -/
def Obligations.RawEqualToCal5Divides : Prop :=
  ∀ s : State, Inv s → s.status.calValid = true → s.cfg.calSigned = Config.defaultSigned →
    ∃ r, tempf s.cfg s.cal s.cal[5] = some r

/-! ## CTEMP and CPRES -/

/-- 41_calibration_compensation.md section 3, CTEMP: the two steps of a running CTEMP, the second with a
result or with DIV_ZERO. -/
def Obligations.CtempSteps : Prop :=
  ∀ (raw : Half) (g : Byte) (s : State), s.status.busy = true → held s = false → s.hl = raw →
    (s.phase = .idle →
      exec (.ctemp raw g) s = .next { s with phase := .compute, busAns := none }) ∧
    (s.phase = .compute → ∀ (t : Half) (b : Word), tempf s.cfg s.cal raw = some (t, b) →
      exec (.ctemp raw g) s = .next { s with
        temp := t, b5 := b,
        status := { s.status with
          b5Valid := true, err := .none, failPhase := .idle, busy := false, done := true },
        phase := .idle, stage := 0, xact := .none, busAns := none, xfail := none,
        events := s.events ++ [.tempResult t b, .cmdDone .none] }) ∧
    (s.phase = .compute → tempf s.cfg s.cal raw = none →
      exec (.ctemp raw g) s = .next { s with
        status := { s.status with err := .divZero, failPhase := .compute, busy := false, done := true },
        phase := .idle, stage := 0, xact := .none, busAns := none, xfail := none,
        events := s.events ++ [.cmdDone .divZero] })

/-- 41_calibration_compensation.md section 4, CPRES: the two steps of a running CPRES, with the stored
B5. -/
def Obligations.CpresSteps : Prop :=
  ∀ (raw : Half) (g : Byte) (s : State), s.status.busy = true → held s = false → s.hl = raw →
    (s.phase = .idle →
      exec (.cpres raw g) s = .next { s with phase := .compute, busAns := none }) ∧
    (s.phase = .compute → ∀ p : Word, presf s.cfg s.cal s.b5 raw = some p →
      exec (.cpres raw g) s = .next { s with
        press := p,
        status := { s.status with err := .none, failPhase := .idle, busy := false, done := true },
        phase := .idle, stage := 0, xact := .none, busAns := none, xfail := none,
        events := s.events ++ [.pressResult p, .cmdDone .none] }) ∧
    (s.phase = .compute → presf s.cfg s.cal s.b5 raw = none →
      exec (.cpres raw g) s = .next { s with
        status := { s.status with err := .divZero, failPhase := .compute, busy := false, done := true },
        phase := .idle, stage := 0, xact := .none, busAns := none, xfail := none,
        events := s.events ++ [.cmdDone .divZero] })

/-! ## RDTEMP and RDPRES -/

/-- 42_composite_reads.md section 3: the stages of a running RDTEMP or RDPRES up to its compute step. That
setting stage 1 or 3 is a step of its own is the model's reading (log entry 6). -/
def Obligations.CompositeReadStages : Prop :=
  ∀ (i : Instr) (ctrl : Byte) (mode : ConvMode) (g : Byte) (h : Half) (s : State),
    (i = .rdtemp g h ∧ ctrl = s.cfg.tempCtrl ∧ mode = .temp ∨
      i = .rdpres g h ∧ ctrl = s.cfg.pressCtrl ∧ mode = .press) →
    s.status.busy = true → held s = false →
    let failed (f : XFail) : State := { s with
      status := { s.status with
        err := .busPhase, busStatus := f.status, failPhase := f.phase, failXact := f.shape,
        busy := false, done := true },
      phase := .idle, stage := 0, xact := .none, busAns := none, xfail := none,
      events := s.events ++ [.cmdDone .busPhase] }
    let stopped := s.phase = .stop ∧ s.busAns = some (.done .stop)
    (s.stage = 0 → exec i s = .next { s with stage := 1 }) ∧
    (s.stage = 1 → s.xact = .none →
      exec i s = .next { s with
        tb := ctrl, xact := .trig, xfail := none, phase := .start,
        busReq := some .start, busAns := none, events := s.events ++ [.bpReq .start] }) ∧
    (s.stage = 1 → s.xact = .trig → stopped →
      (s.xfail = none → exec i s = .next { s with
        stage := 2, xact := .none, phase := .waitConv, conv := ⟨true, mode⟩, busAns := none,
        events := s.events ++ [.convReq mode] }) ∧
      (∀ f, s.xfail = some f → exec i s = .next (failed f))) ∧
    (s.stage = 2 → exec i s = .next { s with stage := 3 }) ∧
    (s.stage = 3 → s.xact = .none →
      exec i s = .next { s with
        ra := s.cfg.resMsb, ia := s.cfg.resMsb ++ s.cfg.resLsb, xact := .rdpair, xfail := none,
        phase := .start, busReq := some .start, busAns := none,
        events := s.events ++ [.bpReq .start] }) ∧
    (s.stage = 3 → s.xact = .rdpair → stopped →
      (s.xfail = none → exec i s = .next { s with
        result := s.dhi ++ s.dlo, rawl := s.dhi ++ s.dlo, stage := 4, xact := .none,
        phase := .compute, busAns := none }) ∧
      (∀ f, s.xfail = some f → exec i s = .next (failed f)))

/-- 42_composite_reads.md section 3: the compute step that completes an RDTEMP or an RDPRES, with a result
or with DIV_ZERO; RDPRES computes with the stored B5. -/
def Obligations.CompositeReadCompute : Prop :=
  ∀ (g : Byte) (h : Half) (s : State), s.status.busy = true → held s = false → s.stage = 4 →
    let divZero : State := { s with
      status := { s.status with err := .divZero, failPhase := .compute, busy := false, done := true },
      phase := .idle, stage := 0, xact := .none, busAns := none, xfail := none,
      events := s.events ++ [.cmdDone .divZero] }
    (∀ (t : Half) (b : Word), tempf s.cfg s.cal s.rawl = some (t, b) →
      exec (.rdtemp g h) s = .next { s with
        temp := t, b5 := b,
        status := { s.status with
          b5Valid := true, err := .none, failPhase := .idle, busy := false, done := true },
        phase := .idle, stage := 0, xact := .none, busAns := none, xfail := none,
        events := s.events ++ [.tempResult t b, .cmdDone .none] }) ∧
    (tempf s.cfg s.cal s.rawl = none → exec (.rdtemp g h) s = .next divZero) ∧
    (∀ p : Word, presf s.cfg s.cal s.b5 s.rawl = some p →
      exec (.rdpres g h) s = .next { s with
        press := p,
        status := { s.status with err := .none, failPhase := .idle, busy := false, done := true },
        phase := .idle, stage := 0, xact := .none, busAns := none, xfail := none,
        events := s.events ++ [.pressResult p, .cmdDone .none] }) ∧
    (presf s.cfg s.cal s.b5 s.rawl = none → exec (.rdpres g h) s = .next divZero)

/-- 42_composite_reads.md sections 1 to 3: a whole RDTEMP and a whole RDPRES under agents that answer at
once, from the command write to completion: the 9 primitives of the trigger, one conversion wait, the 18
of the result read, and the result the formula gives for the word read; a division by zero ends it with
RESULT written and TEMP, PRESS, B5 and B5_VALID as before. The number of steps rests on log entry 6. -/
def Obligations.CompositeReadRun : Prop :=
  ∀ (s : State) (g : Byte) (h : Half) (hi lo st0 : Byte) (o o' : Nat → Byte) (l l' : Byte),
    s.status.busy = false → Quiet s → s.status.calValid = true →
    (st0 = s.cfg.stStart ∨ st0 = s.cfg.stRestart) →
    let read := goodRead s.cfg s.cfg.resMsb (s.cfg.resMsb ++ s.cfg.resLsb) hi lo o'
    let start (i : Instr) (ctrl : Byte) : State := { s with
      moves := issueMove (encode i) :: .sequencer :: .sequencer ::
        answering (tradeBytes (goodTrigger s.cfg ctrl st0 o) ++ [l]) ++
        .timerAnswer :: .sequencer :: .sequencer :: answering (tradeBytes read ++ [l']) ++
        [.sequencer] }
    let trace (i : Instr) (ctrl : Byte) (mode : ConvMode) (last : List Event) : List Event :=
      s.events ++ .cmdAccepted (encode i) ::
        tradeEvents (goodTrigger s.cfg ctrl st0 o ++ [(.stop, l)]) ++
        .convReq mode :: .convDone mode :: tradeEvents (read ++ [(.stop, l')]) ++ last
    (∃ t, core.run 61 (start (.rdtemp g h) s.cfg.tempCtrl) = .next t ∧
      t.result = hi ++ lo ∧ t.status.busy = false ∧ t.status.done = true ∧
      t.press = s.press ∧ t.cal = s.cal ∧ t.calstat = s.calstat ∧ t.status.calValid = true ∧
      (∀ (x : Half) (b : Word), tempf s.cfg s.cal (hi ++ lo) = some (x, b) →
        t.temp = x ∧ t.b5 = b ∧ t.status.b5Valid = true ∧ t.status.err = .none ∧
        t.events = trace (.rdtemp g h) s.cfg.tempCtrl .temp [.tempResult x b, .cmdDone .none]) ∧
      (tempf s.cfg s.cal (hi ++ lo) = none →
        t.temp = s.temp ∧ t.b5 = s.b5 ∧ t.status.b5Valid = s.status.b5Valid ∧
        t.status.err = .divZero ∧ t.status.failPhase = .compute ∧
        t.events = trace (.rdtemp g h) s.cfg.tempCtrl .temp [.cmdDone .divZero])) ∧
    (s.status.b5Valid = true →
      ∃ t, core.run 61 (start (.rdpres g h) s.cfg.pressCtrl) = .next t ∧
      t.result = hi ++ lo ∧ t.status.busy = false ∧ t.status.done = true ∧
      t.temp = s.temp ∧ t.b5 = s.b5 ∧ t.status.b5Valid = true ∧ t.cal = s.cal ∧
      t.calstat = s.calstat ∧ t.status.calValid = true ∧
      (∀ p : Word, presf s.cfg s.cal s.b5 (hi ++ lo) = some p →
        t.press = p ∧ t.status.err = .none ∧
        t.events = trace (.rdpres g h) s.cfg.pressCtrl .press [.pressResult p, .cmdDone .none]) ∧
      (presf s.cfg s.cal s.b5 (hi ++ lo) = none →
        t.press = s.press ∧ t.status.err = .divZero ∧ t.status.failPhase = .compute ∧
        t.events = trace (.rdpres g h) s.cfg.pressCtrl .press [.cmdDone .divZero]))

/-! ## The whole machine -/

/-- Right after reset the invariant holds, and the empty history agrees with the state. That power-up puts
no event into the history is the model's choice (log entry 25). -/
def Obligations.ResetMeetsTheInvariants : Prop := Inv State.reset ∧ TraceInv State.reset

/-- The invariant is kept by every step of every agent. -/
def Obligations.StepKeepsInv : Prop := ∀ s t : State, Inv s → step s = .next t → Inv t

/-- From a state that meets the invariant, every step answers a next state, but for the host accesses
20_memory.md R48 refuses: the model's one fault (log entry 12) is never raised. A step that the spec says
an agent does not have answers the state as it is, by the model's choice (log entry 10). -/
def Obligations.OnlyUndefinedAccessesStop : Prop :=
  ∀ s : State, Inv s →
    (∃ t, step s = .next t) ∨
    (step s = .refused .hostAccess ∧ ∃ m ms, s.moves = m :: ms ∧ m.defined = false)

/-- Every command answers a next state: idle, whatever the command; running, the command the latches
hold. While a running command is held by a pending request or a conversion wait, the spec says there is no
step; that exec answers the state as it is there is the model's choice (log entry 10). -/
def Obligations.EveryCommandAnswers : Prop :=
  ∀ (i : Instr) (s : State), Inv s →
    (s.status.busy = true → decode (latchedWord s) = .ok i) →
    ∃ t, exec i s = .next t ∧ Inv t

/-- R26: the invariants of STATUS, in the bits the host reads, in every reachable state. -/
def Obligations.StatusInvariants : Prop :=
  ∀ s : State, Reachable s →
    let w := windowRead s 0x04#8
    (w.getLsbD 0 = true → w.getLsbD 1 = false) ∧
    (w.getLsbD 0 = false → w.extractLsb' 12 4 = 0#4) ∧
    (w.extractLsb' 8 4 = 1#4 ↔ w.extractLsb' 5 2 ≠ 0#2) ∧
    (w.extractLsb' 8 4 ≠ 1#4 → w.extractLsb' 16 8 = 0#8)

/-- 10_state.md section 2: the legal values of the STATUS fields, wherever the invariant holds. -/
def Obligations.StatusFieldsAreLegal : Prop :=
  ∀ s : State, Inv s →
    let w := windowRead s 0x04#8
    let err := w.extractLsb' 8 4
    let failPhase := (w.extractLsb' 28 4).toNat
    w.getLsbD 7 = false ∧ err.toNat ≤ 5 ∧ (w.extractLsb' 12 4).toNat ≤ 12 ∧
    (w.extractLsb' 5 2).toNat ≤ 2 ∧
    (err = 1#4 → 1 ≤ failPhase ∧ failPhase ≤ 8) ∧ (err = 2#4 → failPhase = 11) ∧
    (err ≠ 1#4 → err ≠ 2#4 → failPhase = 0)

/-- 42_composite_reads.md section 1, wherever the two invariants hold: with conv_req asserted no request is
pending and no transaction is open; since the last CMD_ACCEPTED the last nine requests are those of a
trigger with the mode's control byte, the last bus event is the answer to its STOP (so no START has been
requested since), and the sequencer requests nothing. That its turn is a step that changes nothing is the
model's choice (log entry 10). -/
def Obligations.BusIsFreeDuringTheWait : Prop :=
  ∀ s : State, Inv s → TraceInv s → s.conv.valid = true →
    let history := sinceAccepted s.events
    let ctrl := match s.conv.mode with
      | .temp => s.cfg.tempCtrl
      | .press => s.cfg.pressCtrl
    s.busReq = none ∧ s.xact = .none ∧
    (∃ v, .cmdAccepted v ∈ s.events) ∧
    (∃ before, requestsIn history = before ++ triggerRequests s.cfg ctrl) ∧
    (busEvents history).getLast? = some (.bpRsp .stop none) ∧
    step { s with moves := [.sequencer] } = .next { s with moves := [] }

/-- 40_bus_transactions.md sections 1 to 3: every step keeps the history one the rules allow and in
agreement with the state: at most one request pending, each answered before the next; the requests of a
transaction are those of the phase table up to the exchange under way, and after a failed check STOP alone;
every transaction not cut by a reset is closed by exactly one STOP, its last primitive, before the command
goes on; no two transactions interleave; a byte answers READ and STATUS only; a conversion wait and the end
of a calibration read come after an answered STOP. -/
def Obligations.StepKeepsTrace : Prop :=
  ∀ s t : State, Inv s → TraceInv s → step s = .next t → TraceInv t

/-- 10_state.md sections 3 to 5: which steps can change a register the host reads, and that no step
changes the configuration. -/
def Obligations.RegisterWriters : Prop :=
  ∀ s t : State, step s = .next t →
    t.cfg = s.cfg ∧
    (s.moves.head? ≠ some .rst →
      let runs (ops : List Nat) := s.status.busy = true ∧ s.opl.toNat ∈ ops
      let accepts := s.status.busy = false ∧ t.status.busy = true ∧ t.opl = 4#4
      (t.result ≠ s.result → runs [3, 7, 8]) ∧
      (t.temp ≠ s.temp → runs [5, 7] ∧ t.status.err = .none ∧ t.status.b5Valid = true) ∧
      (t.b5 ≠ s.b5 → runs [5, 7] ∧ t.status.err = .none ∧ t.status.b5Valid = true) ∧
      (t.press ≠ s.press → runs [6, 8] ∧ t.status.err = .none) ∧
      (t.cal ≠ s.cal → runs [4]) ∧
      (t.calstat ≠ s.calstat → runs [4] ∨ accepts ∧ t.calstat = ⟨0, 0⟩) ∧
      (t.status.calValid ≠ s.status.calValid →
        (runs [4] ∧ t.status.calValid = true ∧ t.status.err = .none) ∨
        (accepts ∧ t.status.calValid = false)) ∧
      (t.status.b5Valid ≠ s.status.b5Valid →
        (runs [5, 7] ∧ t.status.b5Valid = true ∧ t.status.err = .none) ∨
        (accepts ∧ t.status.b5Valid = false)))

/-- R115: what writes B5 and B5_VALID. -/
def Obligations.B5Rule : Prop :=
  (∀ (i : Instr) (s : State) (raw : Half),
    s.status.busy = true → held s = false →
    ((∃ g, i = .ctemp raw g) ∧ s.hl = raw ∧ s.phase = .compute ∨
      (∃ g h, i = .rdtemp g h) ∧ s.rawl = raw ∧ s.stage = 4) →
    (∀ (x : Half) (b : Word), tempf s.cfg s.cal raw = some (x, b) →
      ∃ t, exec i s = .next t ∧ t.b5 = b ∧ t.status.b5Valid = true) ∧
    (tempf s.cfg s.cal raw = none →
      ∃ t, exec i s = .next t ∧ t.status.err = .divZero ∧ t.b5 = s.b5 ∧
        t.status.b5Valid = s.status.b5Valid)) ∧
  (∀ (g : Byte) (h : Half) (s : State), s.status.busy = false →
    ∃ t, exec (.ldcal g h) s = .next t ∧ t.b5 = s.b5 ∧ t.status.b5Valid = false) ∧
  (∀ s : State, ∃ t, step { s with moves := [.rst] } = .next t ∧ t.b5 = 0 ∧
    t.status.b5Valid = false) ∧
  (∀ (i : Instr) (s t : State), exec i s = .next t →
    (t.b5 ≠ s.b5 → (∃ r g, i = .ctemp r g) ∨ ∃ g h, i = .rdtemp g h) ∧
    (t.status.b5Valid ≠ s.status.b5Valid →
      (∃ r g, i = .ctemp r g) ∨ (∃ g h, i = .rdtemp g h) ∨ ∃ g h, i = .ldcal g h))

/-- 40_bus_transactions.md section 1: if every pending request and conversion wait is answered, a running
command completes, whatever the bytes: for every sequence of them, fixed beforehand, within 397 steps of a
schedule that answers at once (1 for the first request and 2 for each of LDCAL's 198 primitives). The
number rests on log entries 6 and 7. -/
def Obligations.FairRunsComplete : Prop :=
  ∀ (s : State) (bytes : Nat → Byte), Inv s → s.status.busy = true →
    ∃ n t, n ≤ 397 ∧ fairRun bytes n s = .next t ∧ t.status.busy = false ∧ t.status.done = true

/-! ## Frames -/

/-- What every command leaves while it runs: the latches, REJECT, LAST_OP, the host's records and the
moves; STATUS is written in the completion step only, which ends with CMD_DONE of the code recorded. -/
def Obligations.FrameRunning : Prop :=
  ∀ (i : Instr) (s t : State), s.status.busy = true → exec i s = .next t →
    t.opl = s.opl ∧ t.bl = s.bl ∧ t.hl = s.hl ∧ t.cfg = s.cfg ∧ t.hostReads = s.hostReads ∧
    t.moves = s.moves ∧ t.status.reject = s.status.reject ∧ t.status.lastOp = s.status.lastOp ∧
    ∃ es, t.events = s.events ++ es ∧
      (t.status.busy = true → t.status = s.status ∧ ∀ c, .cmdDone c ∉ es) ∧
      (t.status.busy = false → t.status.done = true ∧ t.phase = .idle ∧ t.stage = 0 ∧
        t.xact = .none ∧ es.getLast? = some (.cmdDone t.status.err))

/-- INIT, TRIG and RDPAIR leave the compensation registers, the table, CALSTAT, CAL_VALID, B5_VALID, the
compute and conversion registers and the first-failure record as they are; RESULT and the captured bytes
are RDPAIR's alone, RESULT at a completion with NONE; the addresses are RDPAIR's, the control byte
TRIG's. At acceptance idx and ffail are cleared and the latches written (R53). -/
def Obligations.FrameBusCommands : Prop :=
  ∀ (i : Instr) (s t : State),
    ((∃ c p g, i = .init c p g) ∨ (∃ c g, i = .trig c g) ∨ ∃ a b, i = .rdpair a b) →
    exec i s = .next t →
    t.temp = s.temp ∧ t.press = s.press ∧ t.b5 = s.b5 ∧ t.cal = s.cal ∧ t.calstat = s.calstat ∧
    t.status.calValid = s.status.calValid ∧ t.status.b5Valid = s.status.b5Valid ∧
    t.rawl = s.rawl ∧ t.conv = s.conv ∧ t.ffs = s.ffs ∧ t.ffp = s.ffp ∧ t.ffx = s.ffx ∧
    t.cfg = s.cfg ∧ t.hostReads = s.hostReads ∧ t.moves = s.moves ∧
    (t.stage = s.stage ∨ t.stage = 0) ∧
    (s.status.busy = true → t.idx = s.idx ∧ t.ffail = s.ffail) ∧
    ((∀ a b, i ≠ .rdpair a b) →
      t.result = s.result ∧ t.dhi = s.dhi ∧ t.dlo = s.dlo ∧ t.ra = s.ra ∧ t.ia = s.ia) ∧
    ((∀ c g, i ≠ .trig c g) → t.tb = s.tb) ∧
    (t.result ≠ s.result → t.status.busy = false ∧ t.status.err = .none)

/-- LDCAL leaves RESULT, TEMP, PRESS, B5, the control byte, rawl and conv_req as they are; while it runs
B5_VALID too, and CAL_VALID until it completes; of the table only entry idx changes, of CALSTAT only
bit idx. -/
def Obligations.FrameLdcal : Prop :=
  ∀ (g : Byte) (h : Half) (s t : State), exec (.ldcal g h) s = .next t →
    t.result = s.result ∧ t.temp = s.temp ∧ t.press = s.press ∧ t.b5 = s.b5 ∧ t.tb = s.tb ∧
    t.rawl = s.rawl ∧ t.conv = s.conv ∧ t.cfg = s.cfg ∧ t.hostReads = s.hostReads ∧
    t.moves = s.moves ∧
    (∀ j : Fin 11, j.val ≠ s.idx.toNat → t.cal[j] = s.cal[j]) ∧
    (s.status.busy = false → t.cal = s.cal ∧ t.calstat = ⟨0, 0⟩ ∧ t.status.calValid = false ∧
      t.status.b5Valid = false) ∧
    (s.status.busy = true →
      t.status.b5Valid = s.status.b5Valid ∧
      (t.status.calValid ≠ s.status.calValid →
        t.status.busy = false ∧ t.status.err = .none ∧ t.status.calValid = true) ∧
      ∀ j : Fin 11, j.val ≠ s.idx.toNat →
        t.calstat.readFail.getLsbD j.val = s.calstat.readFail.getLsbD j.val ∧
        t.calstat.badValue.getLsbD j.val = s.calstat.badValue.getLsbD j.val)

/-- CTEMP and CPRES leave RESULT, the table, CALSTAT, CAL_VALID and every register of a transaction as they
are, and issue no primitive and no conversion wait; TEMP, B5 and B5_VALID are CTEMP's alone, PRESS is
CPRES's. -/
def Obligations.FrameComputeCommands : Prop :=
  ∀ (i : Instr) (s t : State),
    ((∃ r g, i = .ctemp r g) ∨ ∃ r g, i = .cpres r g) → exec i s = .next t →
    t.result = s.result ∧ t.cal = s.cal ∧ t.calstat = s.calstat ∧
    t.status.calValid = s.status.calValid ∧ t.dhi = s.dhi ∧ t.dlo = s.dlo ∧ t.ra = s.ra ∧
    t.ia = s.ia ∧ t.tb = s.tb ∧ t.rawl = s.rawl ∧ t.conv = s.conv ∧ t.busReq = s.busReq ∧
    t.ffs = s.ffs ∧ t.ffp = s.ffp ∧ t.ffx = s.ffx ∧ t.cfg = s.cfg ∧ t.hostReads = s.hostReads ∧
    t.moves = s.moves ∧
    (s.status.busy = true → t.idx = s.idx ∧ t.ffail = s.ffail ∧
      t.status.busStatus = s.status.busStatus ∧ t.status.failXact = s.status.failXact) ∧
    (∃ es, t.events = s.events ++ es ∧ (∀ r, .bpReq r ∉ es) ∧ ∀ m, .convReq m ∉ es) ∧
    ((∀ r g, i ≠ .ctemp r g) →
      t.temp = s.temp ∧ t.b5 = s.b5 ∧ t.status.b5Valid = s.status.b5Valid) ∧
    ((∀ r g, i ≠ .cpres r g) → t.press = s.press)

/-- RDTEMP and RDPRES leave the table, CALSTAT, CAL_VALID, idx and the first-failure record as they are;
TEMP, B5 and B5_VALID are RDTEMP's alone and PRESS is RDPRES's, each at the compute step of stage 4;
RESULT and rawl change at the end of stage 3 only. -/
def Obligations.FrameCompositeReads : Prop :=
  ∀ (i : Instr) (s t : State),
    ((∃ g h, i = .rdtemp g h) ∨ ∃ g h, i = .rdpres g h) → exec i s = .next t →
    t.cal = s.cal ∧ t.calstat = s.calstat ∧ t.status.calValid = s.status.calValid ∧
    t.ffs = s.ffs ∧ t.ffp = s.ffp ∧ t.ffx = s.ffx ∧ t.cfg = s.cfg ∧ t.hostReads = s.hostReads ∧
    t.moves = s.moves ∧
    (s.status.busy = true → t.idx = s.idx ∧ t.ffail = s.ffail) ∧
    (t.result ≠ s.result ∨ t.rawl ≠ s.rawl →
      s.status.busy = true ∧ s.stage = 3 ∧ t.stage = 4 ∧ t.result = t.rawl) ∧
    (t.temp ≠ s.temp ∨ t.b5 ≠ s.b5 ∨ t.status.b5Valid ≠ s.status.b5Valid →
      (∃ g h, i = .rdtemp g h) ∧ s.status.busy = true ∧ s.stage = 4) ∧
    (t.press ≠ s.press → (∃ g h, i = .rdpres g h) ∧ s.status.busy = true ∧ s.stage = 4)
end

