-- ==== Sys2Proof/Laws/Decode.lean ====
section
/-! SUPPORT. The fields of a packed word, and what decoding one gives. -/

namespace Sys2Proof

/-- Which field of a packed word a bit lies in. -/
theorem getLsbD_pack (h : Half) (b : Byte) (r o : BitVec 4) (i : Nat) :
    (packWord h b r o).getLsbD i =
      if i < 4 then o.getLsbD i else if i < 8 then r.getLsbD (i - 4)
      else if i < 16 then b.getLsbD (i - 8) else h.getLsbD (i - 16) := by
  have e1 : i - 4 - 4 = i - 8 := by omega
  have e2 : i - 8 - 8 = i - 16 := by omega
  have c1 : (i - 4 < 4) = (i < 8) := by simp only [eq_iff_iff]; omega
  have c2 : (i - 8 < 8) = (i < 16) := by simp only [eq_iff_iff]; omega
  simp only [packWord, BitVec.getLsbD_append, e1, e2, c1, c2]

@[simp] theorem opField_pack (h : Half) (b : Byte) (r o : BitVec 4) :
    opField (packWord h b r o) = o := by
  apply BitVec.eq_of_getLsbD_eq
  intro i hi
  simp only [opField, BitVec.getLsbD_extractLsb', getLsbD_pack]
  simp [hi]

@[simp] theorem rsvField_pack (h : Half) (b : Byte) (r o : BitVec 4) :
    rsvField (packWord h b r o) = r := by
  apply BitVec.eq_of_getLsbD_eq
  intro i hi
  have h1 : ¬ (4 + i < 4) := by omega
  have h2 : 4 + i < 8 := by omega
  simp only [rsvField, BitVec.getLsbD_extractLsb', getLsbD_pack]
  simp [hi, h2]

@[simp] theorem bField_pack (h : Half) (b : Byte) (r o : BitVec 4) :
    bField (packWord h b r o) = b := by
  apply BitVec.eq_of_getLsbD_eq
  intro i hi
  have h1 : ¬ (8 + i < 4) := by omega
  have h3 : 8 + i < 16 := by omega
  simp only [bField, BitVec.getLsbD_extractLsb', getLsbD_pack]
  simp [hi, h1, h3]

@[simp] theorem hField_pack (h : Half) (b : Byte) (r o : BitVec 4) :
    hField (packWord h b r o) = h := by
  apply BitVec.eq_of_getLsbD_eq
  intro i hi
  have h1 : ¬ (16 + i < 4) := by omega
  have h2 : ¬ (16 + i < 8) := by omega
  simp only [hField, BitVec.getLsbD_extractLsb', getLsbD_pack]
  simp [hi, h1, h2]

/-- A word is its four fields, packed. -/
theorem pack_fields (v : Word) :
    packWord (hField v) (bField v) (rsvField v) (opField v) = v := by
  apply BitVec.eq_of_getLsbD_eq
  intro i hi
  rw [getLsbD_pack]
  simp only [hField, bField, rsvField, opField, BitVec.getLsbD_extractLsb']
  split
  · simp_all
  split
  · have : 4 + (i - 4) = i := by omega
    have : i - 4 < 4 := by omega
    simp_all
  split
  · have : 8 + (i - 8) = i := by omega
    have : i - 8 < 8 := by omega
    simp_all
  · have : 16 + (i - 16) = i := by omega
    have : i - 16 < 16 := by omega
    simp_all

@[simp] theorem loByte_append (a b : Byte) : loByte (a ++ b) = b := by
  apply BitVec.eq_of_getLsbD_eq
  intro i hi
  simp only [loByte, BitVec.getLsbD_extractLsb', BitVec.getLsbD_append]
  simp [hi]

@[simp] theorem hiByte_append (a b : Byte) : hiByte (a ++ b) = a := by
  apply BitVec.eq_of_getLsbD_eq
  intro i hi
  simp only [hiByte, BitVec.getLsbD_extractLsb', BitVec.getLsbD_append]
  simp [hi]

/-- A halfword is its two bytes. -/
theorem hi_lo (h : Half) : hiByte h ++ loByte h = h := by
  apply BitVec.eq_of_getLsbD_eq
  intro i hi
  simp only [BitVec.getLsbD_append, hiByte, loByte, BitVec.getLsbD_extractLsb']
  by_cases h1 : i < 8
  · simp [h1]
  · have h2 : 8 + (i - 8) = i := by omega
    have h3 : i - 8 < 8 := by omega
    simp [h1, h2, h3]

@[simp] theorem opField_encode (i : Instr) : opField (encode i) = i.op := by simp [encode]
@[simp] theorem rsvField_encode (i : Instr) : rsvField (encode i) = 0#4 := by simp [encode]
@[simp] theorem bField_encode (i : Instr) : bField (encode i) = i.bOperand := by simp [encode]
@[simp] theorem hField_encode (i : Instr) : hField (encode i) = i.hOperand := by simp [encode]

/-- A command's word is legal (R73). -/
@[simp] theorem legal_encode (i : Instr) : legal (encode i) = true := by
  cases i <;> simp [legal, Instr.op]

end Sys2Proof
end

