-- ==== Sys2Proof/Laws/State.lean ====
section
/-! SUPPORT. One lemma per field per update: what each named update of the state leaves in each field.
All hold by unfolding the update once; later proofs simplify with them and unfold no update. -/

namespace Sys2Proof.Machine

variable (s : State)

@[simp] theorem emit_status (e : Event) : (emit e s).status = s.status := rfl
@[simp] theorem emit_calstat (e : Event) : (emit e s).calstat = s.calstat := rfl
@[simp] theorem emit_result (e : Event) : (emit e s).result = s.result := rfl
@[simp] theorem emit_temp (e : Event) : (emit e s).temp = s.temp := rfl
@[simp] theorem emit_press (e : Event) : (emit e s).press = s.press := rfl
@[simp] theorem emit_b5 (e : Event) : (emit e s).b5 = s.b5 := rfl
@[simp] theorem emit_cal (e : Event) : (emit e s).cal = s.cal := rfl
@[simp] theorem emit_opl (e : Event) : (emit e s).opl = s.opl := rfl
@[simp] theorem emit_bl (e : Event) : (emit e s).bl = s.bl := rfl
@[simp] theorem emit_hl (e : Event) : (emit e s).hl = s.hl := rfl
@[simp] theorem emit_phase (e : Event) : (emit e s).phase = s.phase := rfl
@[simp] theorem emit_xact (e : Event) : (emit e s).xact = s.xact := rfl
@[simp] theorem emit_stage (e : Event) : (emit e s).stage = s.stage := rfl
@[simp] theorem emit_idx (e : Event) : (emit e s).idx = s.idx := rfl
@[simp] theorem emit_dhi (e : Event) : (emit e s).dhi = s.dhi := rfl
@[simp] theorem emit_dlo (e : Event) : (emit e s).dlo = s.dlo := rfl
@[simp] theorem emit_ra (e : Event) : (emit e s).ra = s.ra := rfl
@[simp] theorem emit_ia (e : Event) : (emit e s).ia = s.ia := rfl
@[simp] theorem emit_tb (e : Event) : (emit e s).tb = s.tb := rfl
@[simp] theorem emit_rawl (e : Event) : (emit e s).rawl = s.rawl := rfl
@[simp] theorem emit_ffail (e : Event) : (emit e s).ffail = s.ffail := rfl
@[simp] theorem emit_ffs (e : Event) : (emit e s).ffs = s.ffs := rfl
@[simp] theorem emit_ffp (e : Event) : (emit e s).ffp = s.ffp := rfl
@[simp] theorem emit_ffx (e : Event) : (emit e s).ffx = s.ffx := rfl
@[simp] theorem emit_conv (e : Event) : (emit e s).conv = s.conv := rfl
@[simp] theorem emit_busReq (e : Event) : (emit e s).busReq = s.busReq := rfl
@[simp] theorem emit_busAns (e : Event) : (emit e s).busAns = s.busAns := rfl
@[simp] theorem emit_xfail (e : Event) : (emit e s).xfail = s.xfail := rfl
@[simp] theorem emit_events (e : Event) : (emit e s).events = s.events ++ [e] := rfl
@[simp] theorem emit_hostReads (e : Event) : (emit e s).hostReads = s.hostReads := rfl
@[simp] theorem emit_cfg (e : Event) : (emit e s).cfg = s.cfg := rfl
@[simp] theorem emit_moves (e : Event) : (emit e s).moves = s.moves := rfl

@[simp] theorem post_status (r : BusReq) : (post r s).status = s.status := rfl
@[simp] theorem post_calstat (r : BusReq) : (post r s).calstat = s.calstat := rfl
@[simp] theorem post_result (r : BusReq) : (post r s).result = s.result := rfl
@[simp] theorem post_temp (r : BusReq) : (post r s).temp = s.temp := rfl
@[simp] theorem post_press (r : BusReq) : (post r s).press = s.press := rfl
@[simp] theorem post_b5 (r : BusReq) : (post r s).b5 = s.b5 := rfl
@[simp] theorem post_cal (r : BusReq) : (post r s).cal = s.cal := rfl
@[simp] theorem post_opl (r : BusReq) : (post r s).opl = s.opl := rfl
@[simp] theorem post_bl (r : BusReq) : (post r s).bl = s.bl := rfl
@[simp] theorem post_hl (r : BusReq) : (post r s).hl = s.hl := rfl
@[simp] theorem post_phase (r : BusReq) : (post r s).phase = s.phase := rfl
@[simp] theorem post_xact (r : BusReq) : (post r s).xact = s.xact := rfl
@[simp] theorem post_stage (r : BusReq) : (post r s).stage = s.stage := rfl
@[simp] theorem post_idx (r : BusReq) : (post r s).idx = s.idx := rfl
@[simp] theorem post_dhi (r : BusReq) : (post r s).dhi = s.dhi := rfl
@[simp] theorem post_dlo (r : BusReq) : (post r s).dlo = s.dlo := rfl
@[simp] theorem post_ra (r : BusReq) : (post r s).ra = s.ra := rfl
@[simp] theorem post_ia (r : BusReq) : (post r s).ia = s.ia := rfl
@[simp] theorem post_tb (r : BusReq) : (post r s).tb = s.tb := rfl
@[simp] theorem post_rawl (r : BusReq) : (post r s).rawl = s.rawl := rfl
@[simp] theorem post_ffail (r : BusReq) : (post r s).ffail = s.ffail := rfl
@[simp] theorem post_ffs (r : BusReq) : (post r s).ffs = s.ffs := rfl
@[simp] theorem post_ffp (r : BusReq) : (post r s).ffp = s.ffp := rfl
@[simp] theorem post_ffx (r : BusReq) : (post r s).ffx = s.ffx := rfl
@[simp] theorem post_conv (r : BusReq) : (post r s).conv = s.conv := rfl
@[simp] theorem post_busReq (r : BusReq) : (post r s).busReq = some r := rfl
@[simp] theorem post_busAns (r : BusReq) : (post r s).busAns = none := rfl
@[simp] theorem post_xfail (r : BusReq) : (post r s).xfail = s.xfail := rfl
@[simp] theorem post_events (r : BusReq) : (post r s).events = s.events ++ [.bpReq r] := rfl
@[simp] theorem post_hostReads (r : BusReq) : (post r s).hostReads = s.hostReads := rfl
@[simp] theorem post_cfg (r : BusReq) : (post r s).cfg = s.cfg := rfl
@[simp] theorem post_moves (r : BusReq) : (post r s).moves = s.moves := rfl

@[simp] theorem enterPhase_status (p : Phase) (r : BusReq) : (enterPhase p r s).status = s.status := rfl
@[simp] theorem enterPhase_calstat (p : Phase) (r : BusReq) : (enterPhase p r s).calstat = s.calstat := rfl
@[simp] theorem enterPhase_result (p : Phase) (r : BusReq) : (enterPhase p r s).result = s.result := rfl
@[simp] theorem enterPhase_temp (p : Phase) (r : BusReq) : (enterPhase p r s).temp = s.temp := rfl
@[simp] theorem enterPhase_press (p : Phase) (r : BusReq) : (enterPhase p r s).press = s.press := rfl
@[simp] theorem enterPhase_b5 (p : Phase) (r : BusReq) : (enterPhase p r s).b5 = s.b5 := rfl
@[simp] theorem enterPhase_cal (p : Phase) (r : BusReq) : (enterPhase p r s).cal = s.cal := rfl
@[simp] theorem enterPhase_opl (p : Phase) (r : BusReq) : (enterPhase p r s).opl = s.opl := rfl
@[simp] theorem enterPhase_bl (p : Phase) (r : BusReq) : (enterPhase p r s).bl = s.bl := rfl
@[simp] theorem enterPhase_hl (p : Phase) (r : BusReq) : (enterPhase p r s).hl = s.hl := rfl
@[simp] theorem enterPhase_phase (p : Phase) (r : BusReq) : (enterPhase p r s).phase = p := rfl
@[simp] theorem enterPhase_xact (p : Phase) (r : BusReq) : (enterPhase p r s).xact = s.xact := rfl
@[simp] theorem enterPhase_stage (p : Phase) (r : BusReq) : (enterPhase p r s).stage = s.stage := rfl
@[simp] theorem enterPhase_idx (p : Phase) (r : BusReq) : (enterPhase p r s).idx = s.idx := rfl
@[simp] theorem enterPhase_dhi (p : Phase) (r : BusReq) : (enterPhase p r s).dhi = s.dhi := rfl
@[simp] theorem enterPhase_dlo (p : Phase) (r : BusReq) : (enterPhase p r s).dlo = s.dlo := rfl
@[simp] theorem enterPhase_ra (p : Phase) (r : BusReq) : (enterPhase p r s).ra = s.ra := rfl
@[simp] theorem enterPhase_ia (p : Phase) (r : BusReq) : (enterPhase p r s).ia = s.ia := rfl
@[simp] theorem enterPhase_tb (p : Phase) (r : BusReq) : (enterPhase p r s).tb = s.tb := rfl
@[simp] theorem enterPhase_rawl (p : Phase) (r : BusReq) : (enterPhase p r s).rawl = s.rawl := rfl
@[simp] theorem enterPhase_ffail (p : Phase) (r : BusReq) : (enterPhase p r s).ffail = s.ffail := rfl
@[simp] theorem enterPhase_ffs (p : Phase) (r : BusReq) : (enterPhase p r s).ffs = s.ffs := rfl
@[simp] theorem enterPhase_ffp (p : Phase) (r : BusReq) : (enterPhase p r s).ffp = s.ffp := rfl
@[simp] theorem enterPhase_ffx (p : Phase) (r : BusReq) : (enterPhase p r s).ffx = s.ffx := rfl
@[simp] theorem enterPhase_conv (p : Phase) (r : BusReq) : (enterPhase p r s).conv = s.conv := rfl
@[simp] theorem enterPhase_busReq (p : Phase) (r : BusReq) : (enterPhase p r s).busReq = some r := rfl
@[simp] theorem enterPhase_busAns (p : Phase) (r : BusReq) : (enterPhase p r s).busAns = none := rfl
@[simp] theorem enterPhase_xfail (p : Phase) (r : BusReq) : (enterPhase p r s).xfail = s.xfail := rfl
@[simp] theorem enterPhase_events (p : Phase) (r : BusReq) : (enterPhase p r s).events = s.events ++ [.bpReq r] := rfl
@[simp] theorem enterPhase_hostReads (p : Phase) (r : BusReq) : (enterPhase p r s).hostReads = s.hostReads := rfl
@[simp] theorem enterPhase_cfg (p : Phase) (r : BusReq) : (enterPhase p r s).cfg = s.cfg := rfl
@[simp] theorem enterPhase_moves (p : Phase) (r : BusReq) : (enterPhase p r s).moves = s.moves := rfl

@[simp] theorem abort_status (b : Byte) : (abort b s).status = s.status := rfl
@[simp] theorem abort_calstat (b : Byte) : (abort b s).calstat = s.calstat := rfl
@[simp] theorem abort_result (b : Byte) : (abort b s).result = s.result := rfl
@[simp] theorem abort_temp (b : Byte) : (abort b s).temp = s.temp := rfl
@[simp] theorem abort_press (b : Byte) : (abort b s).press = s.press := rfl
@[simp] theorem abort_b5 (b : Byte) : (abort b s).b5 = s.b5 := rfl
@[simp] theorem abort_cal (b : Byte) : (abort b s).cal = s.cal := rfl
@[simp] theorem abort_opl (b : Byte) : (abort b s).opl = s.opl := rfl
@[simp] theorem abort_bl (b : Byte) : (abort b s).bl = s.bl := rfl
@[simp] theorem abort_hl (b : Byte) : (abort b s).hl = s.hl := rfl
@[simp] theorem abort_phase (b : Byte) : (abort b s).phase = .stop := rfl
@[simp] theorem abort_xact (b : Byte) : (abort b s).xact = s.xact := rfl
@[simp] theorem abort_stage (b : Byte) : (abort b s).stage = s.stage := rfl
@[simp] theorem abort_idx (b : Byte) : (abort b s).idx = s.idx := rfl
@[simp] theorem abort_dhi (b : Byte) : (abort b s).dhi = s.dhi := rfl
@[simp] theorem abort_dlo (b : Byte) : (abort b s).dlo = s.dlo := rfl
@[simp] theorem abort_ra (b : Byte) : (abort b s).ra = s.ra := rfl
@[simp] theorem abort_ia (b : Byte) : (abort b s).ia = s.ia := rfl
@[simp] theorem abort_tb (b : Byte) : (abort b s).tb = s.tb := rfl
@[simp] theorem abort_rawl (b : Byte) : (abort b s).rawl = s.rawl := rfl
@[simp] theorem abort_ffail (b : Byte) : (abort b s).ffail = s.ffail := rfl
@[simp] theorem abort_ffs (b : Byte) : (abort b s).ffs = s.ffs := rfl
@[simp] theorem abort_ffp (b : Byte) : (abort b s).ffp = s.ffp := rfl
@[simp] theorem abort_ffx (b : Byte) : (abort b s).ffx = s.ffx := rfl
@[simp] theorem abort_conv (b : Byte) : (abort b s).conv = s.conv := rfl
@[simp] theorem abort_busReq (b : Byte) : (abort b s).busReq = some .stop := rfl
@[simp] theorem abort_busAns (b : Byte) : (abort b s).busAns = none := rfl
@[simp] theorem abort_xfail (b : Byte) : (abort b s).xfail = some ⟨b, s.phase, s.xact⟩ := rfl
@[simp] theorem abort_events (b : Byte) : (abort b s).events = s.events ++ [.bpReq .stop] := rfl
@[simp] theorem abort_hostReads (b : Byte) : (abort b s).hostReads = s.hostReads := rfl
@[simp] theorem abort_cfg (b : Byte) : (abort b s).cfg = s.cfg := rfl
@[simp] theorem abort_moves (b : Byte) : (abort b s).moves = s.moves := rfl

@[simp] theorem startTrig_status (tb : Byte) : (startTrig tb s).status = s.status := rfl
@[simp] theorem startTrig_calstat (tb : Byte) : (startTrig tb s).calstat = s.calstat := rfl
@[simp] theorem startTrig_result (tb : Byte) : (startTrig tb s).result = s.result := rfl
@[simp] theorem startTrig_temp (tb : Byte) : (startTrig tb s).temp = s.temp := rfl
@[simp] theorem startTrig_press (tb : Byte) : (startTrig tb s).press = s.press := rfl
@[simp] theorem startTrig_b5 (tb : Byte) : (startTrig tb s).b5 = s.b5 := rfl
@[simp] theorem startTrig_cal (tb : Byte) : (startTrig tb s).cal = s.cal := rfl
@[simp] theorem startTrig_opl (tb : Byte) : (startTrig tb s).opl = s.opl := rfl
@[simp] theorem startTrig_bl (tb : Byte) : (startTrig tb s).bl = s.bl := rfl
@[simp] theorem startTrig_hl (tb : Byte) : (startTrig tb s).hl = s.hl := rfl
@[simp] theorem startTrig_phase (tb : Byte) : (startTrig tb s).phase = .start := rfl
@[simp] theorem startTrig_xact (tb : Byte) : (startTrig tb s).xact = .trig := rfl
@[simp] theorem startTrig_stage (tb : Byte) : (startTrig tb s).stage = s.stage := rfl
@[simp] theorem startTrig_idx (tb : Byte) : (startTrig tb s).idx = s.idx := rfl
@[simp] theorem startTrig_dhi (tb : Byte) : (startTrig tb s).dhi = s.dhi := rfl
@[simp] theorem startTrig_dlo (tb : Byte) : (startTrig tb s).dlo = s.dlo := rfl
@[simp] theorem startTrig_ra (tb : Byte) : (startTrig tb s).ra = s.ra := rfl
@[simp] theorem startTrig_ia (tb : Byte) : (startTrig tb s).ia = s.ia := rfl
@[simp] theorem startTrig_tb (tb : Byte) : (startTrig tb s).tb = tb := rfl
@[simp] theorem startTrig_rawl (tb : Byte) : (startTrig tb s).rawl = s.rawl := rfl
@[simp] theorem startTrig_ffail (tb : Byte) : (startTrig tb s).ffail = s.ffail := rfl
@[simp] theorem startTrig_ffs (tb : Byte) : (startTrig tb s).ffs = s.ffs := rfl
@[simp] theorem startTrig_ffp (tb : Byte) : (startTrig tb s).ffp = s.ffp := rfl
@[simp] theorem startTrig_ffx (tb : Byte) : (startTrig tb s).ffx = s.ffx := rfl
@[simp] theorem startTrig_conv (tb : Byte) : (startTrig tb s).conv = s.conv := rfl
@[simp] theorem startTrig_busReq (tb : Byte) : (startTrig tb s).busReq = some .start := rfl
@[simp] theorem startTrig_busAns (tb : Byte) : (startTrig tb s).busAns = none := rfl
@[simp] theorem startTrig_xfail (tb : Byte) : (startTrig tb s).xfail = none := rfl
@[simp] theorem startTrig_events (tb : Byte) : (startTrig tb s).events = s.events ++ [.bpReq .start] := rfl
@[simp] theorem startTrig_hostReads (tb : Byte) : (startTrig tb s).hostReads = s.hostReads := rfl
@[simp] theorem startTrig_cfg (tb : Byte) : (startTrig tb s).cfg = s.cfg := rfl
@[simp] theorem startTrig_moves (tb : Byte) : (startTrig tb s).moves = s.moves := rfl

@[simp] theorem startRead_status (ra : Byte) (ia : Half) : (startRead ra ia s).status = s.status := rfl
@[simp] theorem startRead_calstat (ra : Byte) (ia : Half) : (startRead ra ia s).calstat = s.calstat := rfl
@[simp] theorem startRead_result (ra : Byte) (ia : Half) : (startRead ra ia s).result = s.result := rfl
@[simp] theorem startRead_temp (ra : Byte) (ia : Half) : (startRead ra ia s).temp = s.temp := rfl
@[simp] theorem startRead_press (ra : Byte) (ia : Half) : (startRead ra ia s).press = s.press := rfl
@[simp] theorem startRead_b5 (ra : Byte) (ia : Half) : (startRead ra ia s).b5 = s.b5 := rfl
@[simp] theorem startRead_cal (ra : Byte) (ia : Half) : (startRead ra ia s).cal = s.cal := rfl
@[simp] theorem startRead_opl (ra : Byte) (ia : Half) : (startRead ra ia s).opl = s.opl := rfl
@[simp] theorem startRead_bl (ra : Byte) (ia : Half) : (startRead ra ia s).bl = s.bl := rfl
@[simp] theorem startRead_hl (ra : Byte) (ia : Half) : (startRead ra ia s).hl = s.hl := rfl
@[simp] theorem startRead_phase (ra : Byte) (ia : Half) : (startRead ra ia s).phase = .start := rfl
@[simp] theorem startRead_xact (ra : Byte) (ia : Half) : (startRead ra ia s).xact = .rdpair := rfl
@[simp] theorem startRead_stage (ra : Byte) (ia : Half) : (startRead ra ia s).stage = s.stage := rfl
@[simp] theorem startRead_idx (ra : Byte) (ia : Half) : (startRead ra ia s).idx = s.idx := rfl
@[simp] theorem startRead_dhi (ra : Byte) (ia : Half) : (startRead ra ia s).dhi = s.dhi := rfl
@[simp] theorem startRead_dlo (ra : Byte) (ia : Half) : (startRead ra ia s).dlo = s.dlo := rfl
@[simp] theorem startRead_ra (ra : Byte) (ia : Half) : (startRead ra ia s).ra = ra := rfl
@[simp] theorem startRead_ia (ra : Byte) (ia : Half) : (startRead ra ia s).ia = ia := rfl
@[simp] theorem startRead_tb (ra : Byte) (ia : Half) : (startRead ra ia s).tb = s.tb := rfl
@[simp] theorem startRead_rawl (ra : Byte) (ia : Half) : (startRead ra ia s).rawl = s.rawl := rfl
@[simp] theorem startRead_ffail (ra : Byte) (ia : Half) : (startRead ra ia s).ffail = s.ffail := rfl
@[simp] theorem startRead_ffs (ra : Byte) (ia : Half) : (startRead ra ia s).ffs = s.ffs := rfl
@[simp] theorem startRead_ffp (ra : Byte) (ia : Half) : (startRead ra ia s).ffp = s.ffp := rfl
@[simp] theorem startRead_ffx (ra : Byte) (ia : Half) : (startRead ra ia s).ffx = s.ffx := rfl
@[simp] theorem startRead_conv (ra : Byte) (ia : Half) : (startRead ra ia s).conv = s.conv := rfl
@[simp] theorem startRead_busReq (ra : Byte) (ia : Half) : (startRead ra ia s).busReq = some .start := rfl
@[simp] theorem startRead_busAns (ra : Byte) (ia : Half) : (startRead ra ia s).busAns = none := rfl
@[simp] theorem startRead_xfail (ra : Byte) (ia : Half) : (startRead ra ia s).xfail = none := rfl
@[simp] theorem startRead_events (ra : Byte) (ia : Half) : (startRead ra ia s).events = s.events ++ [.bpReq .start] := rfl
@[simp] theorem startRead_hostReads (ra : Byte) (ia : Half) : (startRead ra ia s).hostReads = s.hostReads := rfl
@[simp] theorem startRead_cfg (ra : Byte) (ia : Half) : (startRead ra ia s).cfg = s.cfg := rfl
@[simp] theorem startRead_moves (ra : Byte) (ia : Half) : (startRead ra ia s).moves = s.moves := rfl

@[simp] theorem complete_status (c : ErrCode) (p : Phase) : (complete c p s).status = { s.status with err := c, failPhase := p, busy := false, done := true } := rfl
@[simp] theorem complete_calstat (c : ErrCode) (p : Phase) : (complete c p s).calstat = s.calstat := rfl
@[simp] theorem complete_result (c : ErrCode) (p : Phase) : (complete c p s).result = s.result := rfl
@[simp] theorem complete_temp (c : ErrCode) (p : Phase) : (complete c p s).temp = s.temp := rfl
@[simp] theorem complete_press (c : ErrCode) (p : Phase) : (complete c p s).press = s.press := rfl
@[simp] theorem complete_b5 (c : ErrCode) (p : Phase) : (complete c p s).b5 = s.b5 := rfl
@[simp] theorem complete_cal (c : ErrCode) (p : Phase) : (complete c p s).cal = s.cal := rfl
@[simp] theorem complete_opl (c : ErrCode) (p : Phase) : (complete c p s).opl = s.opl := rfl
@[simp] theorem complete_bl (c : ErrCode) (p : Phase) : (complete c p s).bl = s.bl := rfl
@[simp] theorem complete_hl (c : ErrCode) (p : Phase) : (complete c p s).hl = s.hl := rfl
@[simp] theorem complete_phase (c : ErrCode) (p : Phase) : (complete c p s).phase = .idle := rfl
@[simp] theorem complete_xact (c : ErrCode) (p : Phase) : (complete c p s).xact = .none := rfl
@[simp] theorem complete_stage (c : ErrCode) (p : Phase) : (complete c p s).stage = 0 := rfl
@[simp] theorem complete_idx (c : ErrCode) (p : Phase) : (complete c p s).idx = s.idx := rfl
@[simp] theorem complete_dhi (c : ErrCode) (p : Phase) : (complete c p s).dhi = s.dhi := rfl
@[simp] theorem complete_dlo (c : ErrCode) (p : Phase) : (complete c p s).dlo = s.dlo := rfl
@[simp] theorem complete_ra (c : ErrCode) (p : Phase) : (complete c p s).ra = s.ra := rfl
@[simp] theorem complete_ia (c : ErrCode) (p : Phase) : (complete c p s).ia = s.ia := rfl
@[simp] theorem complete_tb (c : ErrCode) (p : Phase) : (complete c p s).tb = s.tb := rfl
@[simp] theorem complete_rawl (c : ErrCode) (p : Phase) : (complete c p s).rawl = s.rawl := rfl
@[simp] theorem complete_ffail (c : ErrCode) (p : Phase) : (complete c p s).ffail = s.ffail := rfl
@[simp] theorem complete_ffs (c : ErrCode) (p : Phase) : (complete c p s).ffs = s.ffs := rfl
@[simp] theorem complete_ffp (c : ErrCode) (p : Phase) : (complete c p s).ffp = s.ffp := rfl
@[simp] theorem complete_ffx (c : ErrCode) (p : Phase) : (complete c p s).ffx = s.ffx := rfl
@[simp] theorem complete_conv (c : ErrCode) (p : Phase) : (complete c p s).conv = s.conv := rfl
@[simp] theorem complete_busReq (c : ErrCode) (p : Phase) : (complete c p s).busReq = s.busReq := rfl
@[simp] theorem complete_busAns (c : ErrCode) (p : Phase) : (complete c p s).busAns = none := rfl
@[simp] theorem complete_xfail (c : ErrCode) (p : Phase) : (complete c p s).xfail = none := rfl
@[simp] theorem complete_events (c : ErrCode) (p : Phase) : (complete c p s).events = s.events ++ [.cmdDone c] := rfl
@[simp] theorem complete_hostReads (c : ErrCode) (p : Phase) : (complete c p s).hostReads = s.hostReads := rfl
@[simp] theorem complete_cfg (c : ErrCode) (p : Phase) : (complete c p s).cfg = s.cfg := rfl
@[simp] theorem complete_moves (c : ErrCode) (p : Phase) : (complete c p s).moves = s.moves := rfl

@[simp] theorem clearRecord_status : (clearRecord s).status = { s.status with done := false, reject := false, err := .none, busStatus := 0, failPhase := .idle, failXact := .none } := rfl
@[simp] theorem clearRecord_calstat : (clearRecord s).calstat = s.calstat := rfl
@[simp] theorem clearRecord_result : (clearRecord s).result = s.result := rfl
@[simp] theorem clearRecord_temp : (clearRecord s).temp = s.temp := rfl
@[simp] theorem clearRecord_press : (clearRecord s).press = s.press := rfl
@[simp] theorem clearRecord_b5 : (clearRecord s).b5 = s.b5 := rfl
@[simp] theorem clearRecord_cal : (clearRecord s).cal = s.cal := rfl
@[simp] theorem clearRecord_opl : (clearRecord s).opl = s.opl := rfl
@[simp] theorem clearRecord_bl : (clearRecord s).bl = s.bl := rfl
@[simp] theorem clearRecord_hl : (clearRecord s).hl = s.hl := rfl
@[simp] theorem clearRecord_phase : (clearRecord s).phase = s.phase := rfl
@[simp] theorem clearRecord_xact : (clearRecord s).xact = s.xact := rfl
@[simp] theorem clearRecord_stage : (clearRecord s).stage = s.stage := rfl
@[simp] theorem clearRecord_idx : (clearRecord s).idx = s.idx := rfl
@[simp] theorem clearRecord_dhi : (clearRecord s).dhi = s.dhi := rfl
@[simp] theorem clearRecord_dlo : (clearRecord s).dlo = s.dlo := rfl
@[simp] theorem clearRecord_ra : (clearRecord s).ra = s.ra := rfl
@[simp] theorem clearRecord_ia : (clearRecord s).ia = s.ia := rfl
@[simp] theorem clearRecord_tb : (clearRecord s).tb = s.tb := rfl
@[simp] theorem clearRecord_rawl : (clearRecord s).rawl = s.rawl := rfl
@[simp] theorem clearRecord_ffail : (clearRecord s).ffail = s.ffail := rfl
@[simp] theorem clearRecord_ffs : (clearRecord s).ffs = s.ffs := rfl
@[simp] theorem clearRecord_ffp : (clearRecord s).ffp = s.ffp := rfl
@[simp] theorem clearRecord_ffx : (clearRecord s).ffx = s.ffx := rfl
@[simp] theorem clearRecord_conv : (clearRecord s).conv = s.conv := rfl
@[simp] theorem clearRecord_busReq : (clearRecord s).busReq = s.busReq := rfl
@[simp] theorem clearRecord_busAns : (clearRecord s).busAns = s.busAns := rfl
@[simp] theorem clearRecord_xfail : (clearRecord s).xfail = s.xfail := rfl
@[simp] theorem clearRecord_events : (clearRecord s).events = s.events := rfl
@[simp] theorem clearRecord_hostReads : (clearRecord s).hostReads = s.hostReads := rfl
@[simp] theorem clearRecord_cfg : (clearRecord s).cfg = s.cfg := rfl
@[simp] theorem clearRecord_moves : (clearRecord s).moves = s.moves := rfl

@[simp] theorem latch_status (v : Word) : (latch v s).status = { s.status with lastOp := opField v } := rfl
@[simp] theorem latch_calstat (v : Word) : (latch v s).calstat = s.calstat := rfl
@[simp] theorem latch_result (v : Word) : (latch v s).result = s.result := rfl
@[simp] theorem latch_temp (v : Word) : (latch v s).temp = s.temp := rfl
@[simp] theorem latch_press (v : Word) : (latch v s).press = s.press := rfl
@[simp] theorem latch_b5 (v : Word) : (latch v s).b5 = s.b5 := rfl
@[simp] theorem latch_cal (v : Word) : (latch v s).cal = s.cal := rfl
@[simp] theorem latch_opl (v : Word) : (latch v s).opl = opField v := rfl
@[simp] theorem latch_bl (v : Word) : (latch v s).bl = bField v := rfl
@[simp] theorem latch_hl (v : Word) : (latch v s).hl = hField v := rfl
@[simp] theorem latch_phase (v : Word) : (latch v s).phase = s.phase := rfl
@[simp] theorem latch_xact (v : Word) : (latch v s).xact = s.xact := rfl
@[simp] theorem latch_stage (v : Word) : (latch v s).stage = s.stage := rfl
@[simp] theorem latch_idx (v : Word) : (latch v s).idx = s.idx := rfl
@[simp] theorem latch_dhi (v : Word) : (latch v s).dhi = s.dhi := rfl
@[simp] theorem latch_dlo (v : Word) : (latch v s).dlo = s.dlo := rfl
@[simp] theorem latch_ra (v : Word) : (latch v s).ra = s.ra := rfl
@[simp] theorem latch_ia (v : Word) : (latch v s).ia = s.ia := rfl
@[simp] theorem latch_tb (v : Word) : (latch v s).tb = s.tb := rfl
@[simp] theorem latch_rawl (v : Word) : (latch v s).rawl = s.rawl := rfl
@[simp] theorem latch_ffail (v : Word) : (latch v s).ffail = s.ffail := rfl
@[simp] theorem latch_ffs (v : Word) : (latch v s).ffs = s.ffs := rfl
@[simp] theorem latch_ffp (v : Word) : (latch v s).ffp = s.ffp := rfl
@[simp] theorem latch_ffx (v : Word) : (latch v s).ffx = s.ffx := rfl
@[simp] theorem latch_conv (v : Word) : (latch v s).conv = s.conv := rfl
@[simp] theorem latch_busReq (v : Word) : (latch v s).busReq = s.busReq := rfl
@[simp] theorem latch_busAns (v : Word) : (latch v s).busAns = s.busAns := rfl
@[simp] theorem latch_xfail (v : Word) : (latch v s).xfail = s.xfail := rfl
@[simp] theorem latch_events (v : Word) : (latch v s).events = s.events := rfl
@[simp] theorem latch_hostReads (v : Word) : (latch v s).hostReads = s.hostReads := rfl
@[simp] theorem latch_cfg (v : Word) : (latch v s).cfg = s.cfg := rfl
@[simp] theorem latch_moves (v : Word) : (latch v s).moves = s.moves := rfl

@[simp] theorem reject_status (v : Word) : (reject v s).status = { s.status with reject := true } := rfl
@[simp] theorem reject_calstat (v : Word) : (reject v s).calstat = s.calstat := rfl
@[simp] theorem reject_result (v : Word) : (reject v s).result = s.result := rfl
@[simp] theorem reject_temp (v : Word) : (reject v s).temp = s.temp := rfl
@[simp] theorem reject_press (v : Word) : (reject v s).press = s.press := rfl
@[simp] theorem reject_b5 (v : Word) : (reject v s).b5 = s.b5 := rfl
@[simp] theorem reject_cal (v : Word) : (reject v s).cal = s.cal := rfl
@[simp] theorem reject_opl (v : Word) : (reject v s).opl = s.opl := rfl
@[simp] theorem reject_bl (v : Word) : (reject v s).bl = s.bl := rfl
@[simp] theorem reject_hl (v : Word) : (reject v s).hl = s.hl := rfl
@[simp] theorem reject_phase (v : Word) : (reject v s).phase = s.phase := rfl
@[simp] theorem reject_xact (v : Word) : (reject v s).xact = s.xact := rfl
@[simp] theorem reject_stage (v : Word) : (reject v s).stage = s.stage := rfl
@[simp] theorem reject_idx (v : Word) : (reject v s).idx = s.idx := rfl
@[simp] theorem reject_dhi (v : Word) : (reject v s).dhi = s.dhi := rfl
@[simp] theorem reject_dlo (v : Word) : (reject v s).dlo = s.dlo := rfl
@[simp] theorem reject_ra (v : Word) : (reject v s).ra = s.ra := rfl
@[simp] theorem reject_ia (v : Word) : (reject v s).ia = s.ia := rfl
@[simp] theorem reject_tb (v : Word) : (reject v s).tb = s.tb := rfl
@[simp] theorem reject_rawl (v : Word) : (reject v s).rawl = s.rawl := rfl
@[simp] theorem reject_ffail (v : Word) : (reject v s).ffail = s.ffail := rfl
@[simp] theorem reject_ffs (v : Word) : (reject v s).ffs = s.ffs := rfl
@[simp] theorem reject_ffp (v : Word) : (reject v s).ffp = s.ffp := rfl
@[simp] theorem reject_ffx (v : Word) : (reject v s).ffx = s.ffx := rfl
@[simp] theorem reject_conv (v : Word) : (reject v s).conv = s.conv := rfl
@[simp] theorem reject_busReq (v : Word) : (reject v s).busReq = s.busReq := rfl
@[simp] theorem reject_busAns (v : Word) : (reject v s).busAns = s.busAns := rfl
@[simp] theorem reject_xfail (v : Word) : (reject v s).xfail = s.xfail := rfl
@[simp] theorem reject_events (v : Word) : (reject v s).events = s.events ++ [.cmdRejected v] := rfl
@[simp] theorem reject_hostReads (v : Word) : (reject v s).hostReads = s.hostReads := rfl
@[simp] theorem reject_cfg (v : Word) : (reject v s).cfg = s.cfg := rfl
@[simp] theorem reject_moves (v : Word) : (reject v s).moves = s.moves := rfl

@[simp] theorem convRequest_status (m : ConvMode) : (convRequest m s).status = s.status := rfl
@[simp] theorem convRequest_calstat (m : ConvMode) : (convRequest m s).calstat = s.calstat := rfl
@[simp] theorem convRequest_result (m : ConvMode) : (convRequest m s).result = s.result := rfl
@[simp] theorem convRequest_temp (m : ConvMode) : (convRequest m s).temp = s.temp := rfl
@[simp] theorem convRequest_press (m : ConvMode) : (convRequest m s).press = s.press := rfl
@[simp] theorem convRequest_b5 (m : ConvMode) : (convRequest m s).b5 = s.b5 := rfl
@[simp] theorem convRequest_cal (m : ConvMode) : (convRequest m s).cal = s.cal := rfl
@[simp] theorem convRequest_opl (m : ConvMode) : (convRequest m s).opl = s.opl := rfl
@[simp] theorem convRequest_bl (m : ConvMode) : (convRequest m s).bl = s.bl := rfl
@[simp] theorem convRequest_hl (m : ConvMode) : (convRequest m s).hl = s.hl := rfl
@[simp] theorem convRequest_phase (m : ConvMode) : (convRequest m s).phase = .waitConv := rfl
@[simp] theorem convRequest_xact (m : ConvMode) : (convRequest m s).xact = s.xact := rfl
@[simp] theorem convRequest_stage (m : ConvMode) : (convRequest m s).stage = s.stage := rfl
@[simp] theorem convRequest_idx (m : ConvMode) : (convRequest m s).idx = s.idx := rfl
@[simp] theorem convRequest_dhi (m : ConvMode) : (convRequest m s).dhi = s.dhi := rfl
@[simp] theorem convRequest_dlo (m : ConvMode) : (convRequest m s).dlo = s.dlo := rfl
@[simp] theorem convRequest_ra (m : ConvMode) : (convRequest m s).ra = s.ra := rfl
@[simp] theorem convRequest_ia (m : ConvMode) : (convRequest m s).ia = s.ia := rfl
@[simp] theorem convRequest_tb (m : ConvMode) : (convRequest m s).tb = s.tb := rfl
@[simp] theorem convRequest_rawl (m : ConvMode) : (convRequest m s).rawl = s.rawl := rfl
@[simp] theorem convRequest_ffail (m : ConvMode) : (convRequest m s).ffail = s.ffail := rfl
@[simp] theorem convRequest_ffs (m : ConvMode) : (convRequest m s).ffs = s.ffs := rfl
@[simp] theorem convRequest_ffp (m : ConvMode) : (convRequest m s).ffp = s.ffp := rfl
@[simp] theorem convRequest_ffx (m : ConvMode) : (convRequest m s).ffx = s.ffx := rfl
@[simp] theorem convRequest_conv (m : ConvMode) : (convRequest m s).conv = ⟨true, m⟩ := rfl
@[simp] theorem convRequest_busReq (m : ConvMode) : (convRequest m s).busReq = s.busReq := rfl
@[simp] theorem convRequest_busAns (m : ConvMode) : (convRequest m s).busAns = none := rfl
@[simp] theorem convRequest_xfail (m : ConvMode) : (convRequest m s).xfail = s.xfail := rfl
@[simp] theorem convRequest_events (m : ConvMode) : (convRequest m s).events = s.events ++ [.convReq m] := rfl
@[simp] theorem convRequest_hostReads (m : ConvMode) : (convRequest m s).hostReads = s.hostReads := rfl
@[simp] theorem convRequest_cfg (m : ConvMode) : (convRequest m s).cfg = s.cfg := rfl
@[simp] theorem convRequest_moves (m : ConvMode) : (convRequest m s).moves = s.moves := rfl

@[simp] theorem enterCompute_status : (enterCompute s).status = s.status := rfl
@[simp] theorem enterCompute_calstat : (enterCompute s).calstat = s.calstat := rfl
@[simp] theorem enterCompute_result : (enterCompute s).result = s.result := rfl
@[simp] theorem enterCompute_temp : (enterCompute s).temp = s.temp := rfl
@[simp] theorem enterCompute_press : (enterCompute s).press = s.press := rfl
@[simp] theorem enterCompute_b5 : (enterCompute s).b5 = s.b5 := rfl
@[simp] theorem enterCompute_cal : (enterCompute s).cal = s.cal := rfl
@[simp] theorem enterCompute_opl : (enterCompute s).opl = s.opl := rfl
@[simp] theorem enterCompute_bl : (enterCompute s).bl = s.bl := rfl
@[simp] theorem enterCompute_hl : (enterCompute s).hl = s.hl := rfl
@[simp] theorem enterCompute_phase : (enterCompute s).phase = .compute := rfl
@[simp] theorem enterCompute_xact : (enterCompute s).xact = s.xact := rfl
@[simp] theorem enterCompute_stage : (enterCompute s).stage = s.stage := rfl
@[simp] theorem enterCompute_idx : (enterCompute s).idx = s.idx := rfl
@[simp] theorem enterCompute_dhi : (enterCompute s).dhi = s.dhi := rfl
@[simp] theorem enterCompute_dlo : (enterCompute s).dlo = s.dlo := rfl
@[simp] theorem enterCompute_ra : (enterCompute s).ra = s.ra := rfl
@[simp] theorem enterCompute_ia : (enterCompute s).ia = s.ia := rfl
@[simp] theorem enterCompute_tb : (enterCompute s).tb = s.tb := rfl
@[simp] theorem enterCompute_rawl : (enterCompute s).rawl = s.rawl := rfl
@[simp] theorem enterCompute_ffail : (enterCompute s).ffail = s.ffail := rfl
@[simp] theorem enterCompute_ffs : (enterCompute s).ffs = s.ffs := rfl
@[simp] theorem enterCompute_ffp : (enterCompute s).ffp = s.ffp := rfl
@[simp] theorem enterCompute_ffx : (enterCompute s).ffx = s.ffx := rfl
@[simp] theorem enterCompute_conv : (enterCompute s).conv = s.conv := rfl
@[simp] theorem enterCompute_busReq : (enterCompute s).busReq = s.busReq := rfl
@[simp] theorem enterCompute_busAns : (enterCompute s).busAns = none := rfl
@[simp] theorem enterCompute_xfail : (enterCompute s).xfail = s.xfail := rfl
@[simp] theorem enterCompute_events : (enterCompute s).events = s.events := rfl
@[simp] theorem enterCompute_hostReads : (enterCompute s).hostReads = s.hostReads := rfl
@[simp] theorem enterCompute_cfg : (enterCompute s).cfg = s.cfg := rfl
@[simp] theorem enterCompute_moves : (enterCompute s).moves = s.moves := rfl

@[simp] theorem setBusy_status : (setBusy s).status = { s.status with busy := true } := rfl
@[simp] theorem setBusy_calstat : (setBusy s).calstat = s.calstat := rfl
@[simp] theorem setBusy_result : (setBusy s).result = s.result := rfl
@[simp] theorem setBusy_temp : (setBusy s).temp = s.temp := rfl
@[simp] theorem setBusy_press : (setBusy s).press = s.press := rfl
@[simp] theorem setBusy_b5 : (setBusy s).b5 = s.b5 := rfl
@[simp] theorem setBusy_cal : (setBusy s).cal = s.cal := rfl
@[simp] theorem setBusy_opl : (setBusy s).opl = s.opl := rfl
@[simp] theorem setBusy_bl : (setBusy s).bl = s.bl := rfl
@[simp] theorem setBusy_hl : (setBusy s).hl = s.hl := rfl
@[simp] theorem setBusy_phase : (setBusy s).phase = s.phase := rfl
@[simp] theorem setBusy_xact : (setBusy s).xact = s.xact := rfl
@[simp] theorem setBusy_stage : (setBusy s).stage = 0 := rfl
@[simp] theorem setBusy_idx : (setBusy s).idx = 0 := rfl
@[simp] theorem setBusy_dhi : (setBusy s).dhi = s.dhi := rfl
@[simp] theorem setBusy_dlo : (setBusy s).dlo = s.dlo := rfl
@[simp] theorem setBusy_ra : (setBusy s).ra = s.ra := rfl
@[simp] theorem setBusy_ia : (setBusy s).ia = s.ia := rfl
@[simp] theorem setBusy_tb : (setBusy s).tb = s.tb := rfl
@[simp] theorem setBusy_rawl : (setBusy s).rawl = s.rawl := rfl
@[simp] theorem setBusy_ffail : (setBusy s).ffail = false := rfl
@[simp] theorem setBusy_ffs : (setBusy s).ffs = s.ffs := rfl
@[simp] theorem setBusy_ffp : (setBusy s).ffp = s.ffp := rfl
@[simp] theorem setBusy_ffx : (setBusy s).ffx = s.ffx := rfl
@[simp] theorem setBusy_conv : (setBusy s).conv = s.conv := rfl
@[simp] theorem setBusy_busReq : (setBusy s).busReq = s.busReq := rfl
@[simp] theorem setBusy_busAns : (setBusy s).busAns = s.busAns := rfl
@[simp] theorem setBusy_xfail : (setBusy s).xfail = s.xfail := rfl
@[simp] theorem setBusy_events : (setBusy s).events = s.events := rfl
@[simp] theorem setBusy_hostReads : (setBusy s).hostReads = s.hostReads := rfl
@[simp] theorem setBusy_cfg : (setBusy s).cfg = s.cfg := rfl
@[simp] theorem setBusy_moves : (setBusy s).moves = s.moves := rfl

@[simp] theorem clearCalibration_status : (clearCalibration s).status = { s.status with calValid := false, b5Valid := false } := rfl
@[simp] theorem clearCalibration_calstat : (clearCalibration s).calstat = ⟨0, 0⟩ := rfl
@[simp] theorem clearCalibration_result : (clearCalibration s).result = s.result := rfl
@[simp] theorem clearCalibration_temp : (clearCalibration s).temp = s.temp := rfl
@[simp] theorem clearCalibration_press : (clearCalibration s).press = s.press := rfl
@[simp] theorem clearCalibration_b5 : (clearCalibration s).b5 = s.b5 := rfl
@[simp] theorem clearCalibration_cal : (clearCalibration s).cal = s.cal := rfl
@[simp] theorem clearCalibration_opl : (clearCalibration s).opl = s.opl := rfl
@[simp] theorem clearCalibration_bl : (clearCalibration s).bl = s.bl := rfl
@[simp] theorem clearCalibration_hl : (clearCalibration s).hl = s.hl := rfl
@[simp] theorem clearCalibration_phase : (clearCalibration s).phase = s.phase := rfl
@[simp] theorem clearCalibration_xact : (clearCalibration s).xact = s.xact := rfl
@[simp] theorem clearCalibration_stage : (clearCalibration s).stage = s.stage := rfl
@[simp] theorem clearCalibration_idx : (clearCalibration s).idx = s.idx := rfl
@[simp] theorem clearCalibration_dhi : (clearCalibration s).dhi = s.dhi := rfl
@[simp] theorem clearCalibration_dlo : (clearCalibration s).dlo = s.dlo := rfl
@[simp] theorem clearCalibration_ra : (clearCalibration s).ra = s.ra := rfl
@[simp] theorem clearCalibration_ia : (clearCalibration s).ia = s.ia := rfl
@[simp] theorem clearCalibration_tb : (clearCalibration s).tb = s.tb := rfl
@[simp] theorem clearCalibration_rawl : (clearCalibration s).rawl = s.rawl := rfl
@[simp] theorem clearCalibration_ffail : (clearCalibration s).ffail = s.ffail := rfl
@[simp] theorem clearCalibration_ffs : (clearCalibration s).ffs = s.ffs := rfl
@[simp] theorem clearCalibration_ffp : (clearCalibration s).ffp = s.ffp := rfl
@[simp] theorem clearCalibration_ffx : (clearCalibration s).ffx = s.ffx := rfl
@[simp] theorem clearCalibration_conv : (clearCalibration s).conv = s.conv := rfl
@[simp] theorem clearCalibration_busReq : (clearCalibration s).busReq = s.busReq := rfl
@[simp] theorem clearCalibration_busAns : (clearCalibration s).busAns = s.busAns := rfl
@[simp] theorem clearCalibration_xfail : (clearCalibration s).xfail = s.xfail := rfl
@[simp] theorem clearCalibration_events : (clearCalibration s).events = s.events := rfl
@[simp] theorem clearCalibration_hostReads : (clearCalibration s).hostReads = s.hostReads := rfl
@[simp] theorem clearCalibration_cfg : (clearCalibration s).cfg = s.cfg := rfl
@[simp] theorem clearCalibration_moves : (clearCalibration s).moves = s.moves := rfl

@[simp] theorem accepted_status (v : Word) : (accepted v s).status = { s.status with done := false, reject := false, err := .none, busStatus := 0, failPhase := .idle, failXact := .none, lastOp := opField v } := rfl
@[simp] theorem accepted_calstat (v : Word) : (accepted v s).calstat = s.calstat := rfl
@[simp] theorem accepted_result (v : Word) : (accepted v s).result = s.result := rfl
@[simp] theorem accepted_temp (v : Word) : (accepted v s).temp = s.temp := rfl
@[simp] theorem accepted_press (v : Word) : (accepted v s).press = s.press := rfl
@[simp] theorem accepted_b5 (v : Word) : (accepted v s).b5 = s.b5 := rfl
@[simp] theorem accepted_cal (v : Word) : (accepted v s).cal = s.cal := rfl
@[simp] theorem accepted_opl (v : Word) : (accepted v s).opl = opField v := rfl
@[simp] theorem accepted_bl (v : Word) : (accepted v s).bl = bField v := rfl
@[simp] theorem accepted_hl (v : Word) : (accepted v s).hl = hField v := rfl
@[simp] theorem accepted_phase (v : Word) : (accepted v s).phase = s.phase := rfl
@[simp] theorem accepted_xact (v : Word) : (accepted v s).xact = s.xact := rfl
@[simp] theorem accepted_stage (v : Word) : (accepted v s).stage = s.stage := rfl
@[simp] theorem accepted_idx (v : Word) : (accepted v s).idx = s.idx := rfl
@[simp] theorem accepted_dhi (v : Word) : (accepted v s).dhi = s.dhi := rfl
@[simp] theorem accepted_dlo (v : Word) : (accepted v s).dlo = s.dlo := rfl
@[simp] theorem accepted_ra (v : Word) : (accepted v s).ra = s.ra := rfl
@[simp] theorem accepted_ia (v : Word) : (accepted v s).ia = s.ia := rfl
@[simp] theorem accepted_tb (v : Word) : (accepted v s).tb = s.tb := rfl
@[simp] theorem accepted_rawl (v : Word) : (accepted v s).rawl = s.rawl := rfl
@[simp] theorem accepted_ffail (v : Word) : (accepted v s).ffail = s.ffail := rfl
@[simp] theorem accepted_ffs (v : Word) : (accepted v s).ffs = s.ffs := rfl
@[simp] theorem accepted_ffp (v : Word) : (accepted v s).ffp = s.ffp := rfl
@[simp] theorem accepted_ffx (v : Word) : (accepted v s).ffx = s.ffx := rfl
@[simp] theorem accepted_conv (v : Word) : (accepted v s).conv = s.conv := rfl
@[simp] theorem accepted_busReq (v : Word) : (accepted v s).busReq = s.busReq := rfl
@[simp] theorem accepted_busAns (v : Word) : (accepted v s).busAns = s.busAns := rfl
@[simp] theorem accepted_xfail (v : Word) : (accepted v s).xfail = s.xfail := rfl
@[simp] theorem accepted_events (v : Word) : (accepted v s).events = s.events ++ [.cmdAccepted v] := rfl
@[simp] theorem accepted_hostReads (v : Word) : (accepted v s).hostReads = s.hostReads := rfl
@[simp] theorem accepted_cfg (v : Word) : (accepted v s).cfg = s.cfg := rfl
@[simp] theorem accepted_moves (v : Word) : (accepted v s).moves = s.moves := rfl

@[simp] theorem startCalRead_status (i : BitVec 4) : (startCalRead i s).status = s.status := rfl
@[simp] theorem startCalRead_calstat (i : BitVec 4) : (startCalRead i s).calstat = s.calstat := rfl
@[simp] theorem startCalRead_result (i : BitVec 4) : (startCalRead i s).result = s.result := rfl
@[simp] theorem startCalRead_temp (i : BitVec 4) : (startCalRead i s).temp = s.temp := rfl
@[simp] theorem startCalRead_press (i : BitVec 4) : (startCalRead i s).press = s.press := rfl
@[simp] theorem startCalRead_b5 (i : BitVec 4) : (startCalRead i s).b5 = s.b5 := rfl
@[simp] theorem startCalRead_cal (i : BitVec 4) : (startCalRead i s).cal = s.cal := rfl
@[simp] theorem startCalRead_opl (i : BitVec 4) : (startCalRead i s).opl = s.opl := rfl
@[simp] theorem startCalRead_bl (i : BitVec 4) : (startCalRead i s).bl = s.bl := rfl
@[simp] theorem startCalRead_hl (i : BitVec 4) : (startCalRead i s).hl = s.hl := rfl
@[simp] theorem startCalRead_phase (i : BitVec 4) : (startCalRead i s).phase = .start := rfl
@[simp] theorem startCalRead_xact (i : BitVec 4) : (startCalRead i s).xact = .rdpair := rfl
@[simp] theorem startCalRead_stage (i : BitVec 4) : (startCalRead i s).stage = 1 := rfl
@[simp] theorem startCalRead_idx (i : BitVec 4) : (startCalRead i s).idx = i := rfl
@[simp] theorem startCalRead_dhi (i : BitVec 4) : (startCalRead i s).dhi = s.dhi := rfl
@[simp] theorem startCalRead_dlo (i : BitVec 4) : (startCalRead i s).dlo = s.dlo := rfl
@[simp] theorem startCalRead_ra (i : BitVec 4) : (startCalRead i s).ra = calAddrHi s.cfg i.toNat := rfl
@[simp] theorem startCalRead_ia (i : BitVec 4) : (startCalRead i s).ia = calPair s.cfg i.toNat := rfl
@[simp] theorem startCalRead_tb (i : BitVec 4) : (startCalRead i s).tb = s.tb := rfl
@[simp] theorem startCalRead_rawl (i : BitVec 4) : (startCalRead i s).rawl = s.rawl := rfl
@[simp] theorem startCalRead_ffail (i : BitVec 4) : (startCalRead i s).ffail = s.ffail := rfl
@[simp] theorem startCalRead_ffs (i : BitVec 4) : (startCalRead i s).ffs = s.ffs := rfl
@[simp] theorem startCalRead_ffp (i : BitVec 4) : (startCalRead i s).ffp = s.ffp := rfl
@[simp] theorem startCalRead_ffx (i : BitVec 4) : (startCalRead i s).ffx = s.ffx := rfl
@[simp] theorem startCalRead_conv (i : BitVec 4) : (startCalRead i s).conv = s.conv := rfl
@[simp] theorem startCalRead_busReq (i : BitVec 4) : (startCalRead i s).busReq = some .start := rfl
@[simp] theorem startCalRead_busAns (i : BitVec 4) : (startCalRead i s).busAns = none := rfl
@[simp] theorem startCalRead_xfail (i : BitVec 4) : (startCalRead i s).xfail = none := rfl
@[simp] theorem startCalRead_events (i : BitVec 4) : (startCalRead i s).events = s.events ++ [.bpReq .start] := rfl
@[simp] theorem startCalRead_hostReads (i : BitVec 4) : (startCalRead i s).hostReads = s.hostReads := rfl
@[simp] theorem startCalRead_cfg (i : BitVec 4) : (startCalRead i s).cfg = s.cfg := rfl
@[simp] theorem startCalRead_moves (i : BitVec 4) : (startCalRead i s).moves = s.moves := rfl

@[simp] theorem calReadOk_status : (calReadOk s).status = s.status := rfl
@[simp] theorem calReadOk_calstat : (calReadOk s).calstat = { s.calstat with badValue := if badWord (pairValue s) then setBit s.calstat.badValue s.idx else s.calstat.badValue } := rfl
@[simp] theorem calReadOk_result : (calReadOk s).result = s.result := rfl
@[simp] theorem calReadOk_temp : (calReadOk s).temp = s.temp := rfl
@[simp] theorem calReadOk_press : (calReadOk s).press = s.press := rfl
@[simp] theorem calReadOk_b5 : (calReadOk s).b5 = s.b5 := rfl
@[simp] theorem calReadOk_cal : (calReadOk s).cal = setCal s.cal s.idx (pairValue s) := rfl
@[simp] theorem calReadOk_opl : (calReadOk s).opl = s.opl := rfl
@[simp] theorem calReadOk_bl : (calReadOk s).bl = s.bl := rfl
@[simp] theorem calReadOk_hl : (calReadOk s).hl = s.hl := rfl
@[simp] theorem calReadOk_phase : (calReadOk s).phase = s.phase := rfl
@[simp] theorem calReadOk_xact : (calReadOk s).xact = s.xact := rfl
@[simp] theorem calReadOk_stage : (calReadOk s).stage = s.stage := rfl
@[simp] theorem calReadOk_idx : (calReadOk s).idx = s.idx := rfl
@[simp] theorem calReadOk_dhi : (calReadOk s).dhi = s.dhi := rfl
@[simp] theorem calReadOk_dlo : (calReadOk s).dlo = s.dlo := rfl
@[simp] theorem calReadOk_ra : (calReadOk s).ra = s.ra := rfl
@[simp] theorem calReadOk_ia : (calReadOk s).ia = s.ia := rfl
@[simp] theorem calReadOk_tb : (calReadOk s).tb = s.tb := rfl
@[simp] theorem calReadOk_rawl : (calReadOk s).rawl = s.rawl := rfl
@[simp] theorem calReadOk_ffail : (calReadOk s).ffail = s.ffail := rfl
@[simp] theorem calReadOk_ffs : (calReadOk s).ffs = s.ffs := rfl
@[simp] theorem calReadOk_ffp : (calReadOk s).ffp = s.ffp := rfl
@[simp] theorem calReadOk_ffx : (calReadOk s).ffx = s.ffx := rfl
@[simp] theorem calReadOk_conv : (calReadOk s).conv = s.conv := rfl
@[simp] theorem calReadOk_busReq : (calReadOk s).busReq = s.busReq := rfl
@[simp] theorem calReadOk_busAns : (calReadOk s).busAns = s.busAns := rfl
@[simp] theorem calReadOk_xfail : (calReadOk s).xfail = s.xfail := rfl
@[simp] theorem calReadOk_events : (calReadOk s).events = s.events ++ [.calRead s.idx (.ok (pairValue s))] := rfl
@[simp] theorem calReadOk_hostReads : (calReadOk s).hostReads = s.hostReads := rfl
@[simp] theorem calReadOk_cfg : (calReadOk s).cfg = s.cfg := rfl
@[simp] theorem calReadOk_moves : (calReadOk s).moves = s.moves := rfl

@[simp] theorem markReadFail_status : (markReadFail s).status = s.status := rfl
@[simp] theorem markReadFail_calstat : (markReadFail s).calstat = { s.calstat with readFail := setBit s.calstat.readFail s.idx } := rfl
@[simp] theorem markReadFail_result : (markReadFail s).result = s.result := rfl
@[simp] theorem markReadFail_temp : (markReadFail s).temp = s.temp := rfl
@[simp] theorem markReadFail_press : (markReadFail s).press = s.press := rfl
@[simp] theorem markReadFail_b5 : (markReadFail s).b5 = s.b5 := rfl
@[simp] theorem markReadFail_cal : (markReadFail s).cal = s.cal := rfl
@[simp] theorem markReadFail_opl : (markReadFail s).opl = s.opl := rfl
@[simp] theorem markReadFail_bl : (markReadFail s).bl = s.bl := rfl
@[simp] theorem markReadFail_hl : (markReadFail s).hl = s.hl := rfl
@[simp] theorem markReadFail_phase : (markReadFail s).phase = s.phase := rfl
@[simp] theorem markReadFail_xact : (markReadFail s).xact = s.xact := rfl
@[simp] theorem markReadFail_stage : (markReadFail s).stage = s.stage := rfl
@[simp] theorem markReadFail_idx : (markReadFail s).idx = s.idx := rfl
@[simp] theorem markReadFail_dhi : (markReadFail s).dhi = s.dhi := rfl
@[simp] theorem markReadFail_dlo : (markReadFail s).dlo = s.dlo := rfl
@[simp] theorem markReadFail_ra : (markReadFail s).ra = s.ra := rfl
@[simp] theorem markReadFail_ia : (markReadFail s).ia = s.ia := rfl
@[simp] theorem markReadFail_tb : (markReadFail s).tb = s.tb := rfl
@[simp] theorem markReadFail_rawl : (markReadFail s).rawl = s.rawl := rfl
@[simp] theorem markReadFail_ffail : (markReadFail s).ffail = s.ffail := rfl
@[simp] theorem markReadFail_ffs : (markReadFail s).ffs = s.ffs := rfl
@[simp] theorem markReadFail_ffp : (markReadFail s).ffp = s.ffp := rfl
@[simp] theorem markReadFail_ffx : (markReadFail s).ffx = s.ffx := rfl
@[simp] theorem markReadFail_conv : (markReadFail s).conv = s.conv := rfl
@[simp] theorem markReadFail_busReq : (markReadFail s).busReq = s.busReq := rfl
@[simp] theorem markReadFail_busAns : (markReadFail s).busAns = s.busAns := rfl
@[simp] theorem markReadFail_xfail : (markReadFail s).xfail = s.xfail := rfl
@[simp] theorem markReadFail_events : (markReadFail s).events = s.events := rfl
@[simp] theorem markReadFail_hostReads : (markReadFail s).hostReads = s.hostReads := rfl
@[simp] theorem markReadFail_cfg : (markReadFail s).cfg = s.cfg := rfl
@[simp] theorem markReadFail_moves : (markReadFail s).moves = s.moves := rfl

@[simp] theorem resultReadDone_status : (resultReadDone s).status = s.status := rfl
@[simp] theorem resultReadDone_calstat : (resultReadDone s).calstat = s.calstat := rfl
@[simp] theorem resultReadDone_result : (resultReadDone s).result = pairValue s := rfl
@[simp] theorem resultReadDone_temp : (resultReadDone s).temp = s.temp := rfl
@[simp] theorem resultReadDone_press : (resultReadDone s).press = s.press := rfl
@[simp] theorem resultReadDone_b5 : (resultReadDone s).b5 = s.b5 := rfl
@[simp] theorem resultReadDone_cal : (resultReadDone s).cal = s.cal := rfl
@[simp] theorem resultReadDone_opl : (resultReadDone s).opl = s.opl := rfl
@[simp] theorem resultReadDone_bl : (resultReadDone s).bl = s.bl := rfl
@[simp] theorem resultReadDone_hl : (resultReadDone s).hl = s.hl := rfl
@[simp] theorem resultReadDone_phase : (resultReadDone s).phase = .compute := rfl
@[simp] theorem resultReadDone_xact : (resultReadDone s).xact = s.xact := rfl
@[simp] theorem resultReadDone_stage : (resultReadDone s).stage = 4 := rfl
@[simp] theorem resultReadDone_idx : (resultReadDone s).idx = s.idx := rfl
@[simp] theorem resultReadDone_dhi : (resultReadDone s).dhi = s.dhi := rfl
@[simp] theorem resultReadDone_dlo : (resultReadDone s).dlo = s.dlo := rfl
@[simp] theorem resultReadDone_ra : (resultReadDone s).ra = s.ra := rfl
@[simp] theorem resultReadDone_ia : (resultReadDone s).ia = s.ia := rfl
@[simp] theorem resultReadDone_tb : (resultReadDone s).tb = s.tb := rfl
@[simp] theorem resultReadDone_rawl : (resultReadDone s).rawl = pairValue s := rfl
@[simp] theorem resultReadDone_ffail : (resultReadDone s).ffail = s.ffail := rfl
@[simp] theorem resultReadDone_ffs : (resultReadDone s).ffs = s.ffs := rfl
@[simp] theorem resultReadDone_ffp : (resultReadDone s).ffp = s.ffp := rfl
@[simp] theorem resultReadDone_ffx : (resultReadDone s).ffx = s.ffx := rfl
@[simp] theorem resultReadDone_conv : (resultReadDone s).conv = s.conv := rfl
@[simp] theorem resultReadDone_busReq : (resultReadDone s).busReq = s.busReq := rfl
@[simp] theorem resultReadDone_busAns : (resultReadDone s).busAns = none := rfl
@[simp] theorem resultReadDone_xfail : (resultReadDone s).xfail = s.xfail := rfl
@[simp] theorem resultReadDone_events : (resultReadDone s).events = s.events := rfl
@[simp] theorem resultReadDone_hostReads : (resultReadDone s).hostReads = s.hostReads := rfl
@[simp] theorem resultReadDone_cfg : (resultReadDone s).cfg = s.cfg := rfl
@[simp] theorem resultReadDone_moves : (resultReadDone s).moves = s.moves := rfl

@[simp] theorem rdpairDone_status : (rdpairDone s).status = { s.status with err := .none, failPhase := .idle, busy := false, done := true } := rfl
@[simp] theorem rdpairDone_calstat : (rdpairDone s).calstat = s.calstat := rfl
@[simp] theorem rdpairDone_result : (rdpairDone s).result = pairValue s := rfl
@[simp] theorem rdpairDone_temp : (rdpairDone s).temp = s.temp := rfl
@[simp] theorem rdpairDone_press : (rdpairDone s).press = s.press := rfl
@[simp] theorem rdpairDone_b5 : (rdpairDone s).b5 = s.b5 := rfl
@[simp] theorem rdpairDone_cal : (rdpairDone s).cal = s.cal := rfl
@[simp] theorem rdpairDone_opl : (rdpairDone s).opl = s.opl := rfl
@[simp] theorem rdpairDone_bl : (rdpairDone s).bl = s.bl := rfl
@[simp] theorem rdpairDone_hl : (rdpairDone s).hl = s.hl := rfl
@[simp] theorem rdpairDone_phase : (rdpairDone s).phase = .idle := rfl
@[simp] theorem rdpairDone_xact : (rdpairDone s).xact = .none := rfl
@[simp] theorem rdpairDone_stage : (rdpairDone s).stage = 0 := rfl
@[simp] theorem rdpairDone_idx : (rdpairDone s).idx = s.idx := rfl
@[simp] theorem rdpairDone_dhi : (rdpairDone s).dhi = s.dhi := rfl
@[simp] theorem rdpairDone_dlo : (rdpairDone s).dlo = s.dlo := rfl
@[simp] theorem rdpairDone_ra : (rdpairDone s).ra = s.ra := rfl
@[simp] theorem rdpairDone_ia : (rdpairDone s).ia = s.ia := rfl
@[simp] theorem rdpairDone_tb : (rdpairDone s).tb = s.tb := rfl
@[simp] theorem rdpairDone_rawl : (rdpairDone s).rawl = s.rawl := rfl
@[simp] theorem rdpairDone_ffail : (rdpairDone s).ffail = s.ffail := rfl
@[simp] theorem rdpairDone_ffs : (rdpairDone s).ffs = s.ffs := rfl
@[simp] theorem rdpairDone_ffp : (rdpairDone s).ffp = s.ffp := rfl
@[simp] theorem rdpairDone_ffx : (rdpairDone s).ffx = s.ffx := rfl
@[simp] theorem rdpairDone_conv : (rdpairDone s).conv = s.conv := rfl
@[simp] theorem rdpairDone_busReq : (rdpairDone s).busReq = s.busReq := rfl
@[simp] theorem rdpairDone_busAns : (rdpairDone s).busAns = none := rfl
@[simp] theorem rdpairDone_xfail : (rdpairDone s).xfail = none := rfl
@[simp] theorem rdpairDone_events : (rdpairDone s).events = s.events ++ [.cmdDone .none] := rfl
@[simp] theorem rdpairDone_hostReads : (rdpairDone s).hostReads = s.hostReads := rfl
@[simp] theorem rdpairDone_cfg : (rdpairDone s).cfg = s.cfg := rfl
@[simp] theorem rdpairDone_moves : (rdpairDone s).moves = s.moves := rfl

@[simp] theorem resetMove_status : (resetMove s).status = State.reset.status := rfl
@[simp] theorem resetMove_calstat : (resetMove s).calstat = State.reset.calstat := rfl
@[simp] theorem resetMove_result : (resetMove s).result = State.reset.result := rfl
@[simp] theorem resetMove_temp : (resetMove s).temp = State.reset.temp := rfl
@[simp] theorem resetMove_press : (resetMove s).press = State.reset.press := rfl
@[simp] theorem resetMove_b5 : (resetMove s).b5 = State.reset.b5 := rfl
@[simp] theorem resetMove_cal : (resetMove s).cal = State.reset.cal := rfl
@[simp] theorem resetMove_opl : (resetMove s).opl = State.reset.opl := rfl
@[simp] theorem resetMove_bl : (resetMove s).bl = State.reset.bl := rfl
@[simp] theorem resetMove_hl : (resetMove s).hl = State.reset.hl := rfl
@[simp] theorem resetMove_phase : (resetMove s).phase = State.reset.phase := rfl
@[simp] theorem resetMove_xact : (resetMove s).xact = State.reset.xact := rfl
@[simp] theorem resetMove_stage : (resetMove s).stage = State.reset.stage := rfl
@[simp] theorem resetMove_idx : (resetMove s).idx = State.reset.idx := rfl
@[simp] theorem resetMove_dhi : (resetMove s).dhi = State.reset.dhi := rfl
@[simp] theorem resetMove_dlo : (resetMove s).dlo = State.reset.dlo := rfl
@[simp] theorem resetMove_ra : (resetMove s).ra = State.reset.ra := rfl
@[simp] theorem resetMove_ia : (resetMove s).ia = State.reset.ia := rfl
@[simp] theorem resetMove_tb : (resetMove s).tb = State.reset.tb := rfl
@[simp] theorem resetMove_rawl : (resetMove s).rawl = State.reset.rawl := rfl
@[simp] theorem resetMove_ffail : (resetMove s).ffail = State.reset.ffail := rfl
@[simp] theorem resetMove_ffs : (resetMove s).ffs = State.reset.ffs := rfl
@[simp] theorem resetMove_ffp : (resetMove s).ffp = State.reset.ffp := rfl
@[simp] theorem resetMove_ffx : (resetMove s).ffx = State.reset.ffx := rfl
@[simp] theorem resetMove_conv : (resetMove s).conv = State.reset.conv := rfl
@[simp] theorem resetMove_busReq : (resetMove s).busReq = State.reset.busReq := rfl
@[simp] theorem resetMove_busAns : (resetMove s).busAns = State.reset.busAns := rfl
@[simp] theorem resetMove_xfail : (resetMove s).xfail = State.reset.xfail := rfl
@[simp] theorem resetMove_events : (resetMove s).events = s.events ++ [.reset] := rfl
@[simp] theorem resetMove_hostReads : (resetMove s).hostReads = s.hostReads := rfl
@[simp] theorem resetMove_cfg : (resetMove s).cfg = s.cfg := rfl
@[simp] theorem resetMove_moves : (resetMove s).moves = s.moves := rfl

end Sys2Proof.Machine
end

