-- ==== Sys2Proof/Laws/Ops.lean ====
section
/-! SUPPORT. For each shared operation, what it can answer, said once: the transaction steps, running
a command, the outcome of a transaction, the agents' moves. Proofs cite these instead of unfolding. -/

namespace Sys2Proof.Machine

variable {s t : State}

/-! ## Answers -/

@[simp] theorem answerOf_start (b : Byte) : answerOf .start b = .done .start := rfl
@[simp] theorem answerOf_stop (b : Byte) : answerOf .stop b = .done .stop := rfl
@[simp] theorem answerOf_send (x b : Byte) : answerOf (.send x) b = .done (.send x) := rfl
@[simp] theorem answerOf_noack (b : Byte) : answerOf .noack b = .done .noack := rfl
@[simp] theorem answerOf_init (c p b : Byte) : answerOf (.init c p) b = .done (.init c p) := rfl
@[simp] theorem answerOf_read (b : Byte) : answerOf .read b = .read b := rfl
@[simp] theorem answerOf_status (b : Byte) : answerOf .status b = .status b := rfl

/-- R80: exactly READ and STATUS are answered with a byte. -/
theorem answerOf_byte (r : BusReq) (b : Byte) :
    (answerOf r b).byte.isSome = byteExpected r := by cases r <;> rfl

theorem held_iff : held s = true ↔ s.busReq.isSome = true ∨ s.conv.valid = true := by
  simp [held]

/-! ## One step inside a transaction -/

/-- A trigger that goes on has only posted a request, changed the phase and perhaps kept a failure. -/
theorem trigStep_running (h : trigStep s = .running t) :
    ∃ p r xf, t = post r { s with phase := p, xfail := xf } := by
  unfold trigStep check abort enterPhase endTransaction at h
  split at h <;> try split at h
  all_goals cases h
  all_goals exact ⟨_, _, _, rfl⟩

/-- A trigger ends only after the answer to its STOP, with the failure kept until then. -/
theorem trigStep_ended {f : Option XFail} (h : trigStep s = .ended f t) :
    s.phase = .stop ∧ s.busAns = some (.done .stop) ∧ f = s.xfail ∧
      t = { s with xact := .none, xfail := none } := by
  unfold trigStep check abort enterPhase endTransaction at h
  split at h <;> try split at h
  all_goals cases h
  exact ⟨by assumption, by assumption, rfl, rfl⟩

/-- A read that goes on has only posted a request, changed the phase, captured a byte and perhaps kept
a failure. -/
theorem readStep_running (h : readStep s = .running t) :
    ∃ p r xf hi lo, t = post r { s with phase := p, xfail := xf, dhi := hi, dlo := lo } := by
  unfold readStep check abort enterPhase endTransaction at h
  split at h <;> try split at h
  all_goals cases h
  all_goals exact ⟨_, _, _, _, _, rfl⟩

/-- A read ends only after the answer to its STOP, with the failure kept until then. -/
theorem readStep_ended {f : Option XFail} (h : readStep s = .ended f t) :
    s.phase = .stop ∧ s.busAns = some (.done .stop) ∧ f = s.xfail ∧
      t = { s with xact := .none, xfail := none } := by
  unfold readStep check abort enterPhase endTransaction at h
  split at h <;> try split at h
  all_goals cases h
  exact ⟨by assumption, by assumption, rfl, rfl⟩

/-- What a command makes of one transaction step. -/
theorem withTransaction_next {x : XStep} {k : Option XFail → State → State}
    (h : withTransaction x k = .next t) :
    x = .running t ∨ ∃ f u, x = .ended f u ∧ t = k f u := by
  cases x <;> simp [withTransaction] at h
  · exact .inl (by rw [h])
  · exact .inr ⟨_, _, rfl, h.symm⟩

/-- The outcome of a transaction: success goes on, failure ends the command as BUS_PHASE. -/
@[simp] theorem onOutcome_ok (k : State → State) (s : State) : onOutcome k none s = k s := rfl
@[simp] theorem onOutcome_fail (k : State → State) (f : XFail) (s : State) :
    onOutcome k (some f) s = raiseError (.busPhase f) s := rfl

/-! ## Running a command -/

/-- An idle block accepts a command; a running one takes the command's next step unless held. -/
theorem runCommand_next {v : Word} {body : State → Result} (h : runCommand v body s = .next t) :
    (s.status.busy = false ∧ t = accept v s) ∨
    (s.status.busy = true ∧ held s = true ∧ t = s) ∨
    (s.status.busy = true ∧ held s = false ∧ body s = .next t) := by
  unfold runCommand at h
  split at h
  · split at h
    · cases h; exact .inr (.inl ⟨‹_›, ‹_›, rfl⟩)
    · exact .inr (.inr ⟨‹_›, by simpa using ‹¬ held s = true›, h⟩)
  · cases h; exact .inl ⟨by simpa using ‹¬ s.status.busy = true›, rfl⟩

theorem runCommand_idle {v : Word} {body : State → Result} (h : s.status.busy = false) :
    runCommand v body s = .next (accept v s) := by simp [runCommand, h]

theorem runCommand_body {v : Word} {body : State → Result} (h : s.status.busy = true)
    (hh : held s = false) : runCommand v body s = body s := by simp [runCommand, h, hh]

theorem runCommand_held {v : Word} {body : State → Result} (h : s.status.busy = true)
    (hh : held s = true) : runCommand v body s = .next s := by simp [runCommand, h, hh]

/-- Every command's meaning is the running of its word with a body of its own. -/
theorem exec_runs (i : Instr) : ∃ body : State → State → Result, ∀ s, exec i s = runCommand (encode i) (body s) s := by
  cases i <;> exact ⟨_, fun _ => rfl⟩

/-! ## Acceptance (20_memory.md R53) -/

/-- The four ends of an acceptance. -/
theorem accept_cases (v : Word) (s : State) :
    (legal v = false ∧ accept v s = raiseError .illegalCmd (accepted v s)) ∨
    (legal v = true ∧ needsCal (opField v) = true ∧ s.status.calValid = false ∧
      accept v s = raiseError .uncalibrated (accepted v s)) ∨
    (legal v = true ∧ needsB5 (opField v) = true ∧ s.status.b5Valid = false ∧
      accept v s = raiseError .uncalibrated (accepted v s)) ∨
    (legal v = true ∧ (needsCal (opField v) = true → s.status.calValid = true) ∧
      (needsB5 (opField v) = true → s.status.b5Valid = true) ∧
      accept v s = startCommand (accepted v s)) := by
  unfold accept
  by_cases hl : legal v = false
  · exact .inl ⟨hl, if_pos hl⟩
  rw [if_neg hl, Bool.not_eq_false] at *
  by_cases hc : needsCal (opField v) = true ∧ s.status.calValid = false
  · exact .inr (.inl ⟨hl, hc.1, hc.2, if_pos hc⟩)
  rw [if_neg hc]
  by_cases hb : needsB5 (opField v) = true ∧ s.status.b5Valid = false
  · exact .inr (.inr (.inl ⟨hl, hb.1, hb.2, if_pos hb⟩))
  · simp only [not_and, Bool.not_eq_false] at hc hb
    exact .inr (.inr (.inr ⟨hl, hc, hb, if_neg (by simpa using hb)⟩))

/-! ## The agents -/

/-- The answer step of the bus controller (R81): nothing without a pending request. -/
theorem busAnswer_none (b : Byte) (h : s.busReq = none) : busAnswer b s = s := by
  simp [busAnswer, h]

theorem busAnswer_some (b : Byte) {r : BusReq} (h : s.busReq = some r) :
    busAnswer b s = emit (.bpRsp r (answerOf r b).byte)
      { s with busReq := none, busAns := some (answerOf r b) } := by
  simp [busAnswer, h]

/-- What one step can be. -/
theorem step_nil (h : s.moves = []) : step s = sequencerTurn exec s := by
  simp [step, machineStep, h]

theorem step_cons {m : Move} {rest : List Move} (h : s.moves = m :: rest) :
    step s = agentMove exec m { s with moves := rest } := by
  simp [step, machineStep, h]

end Sys2Proof.Machine
end

