-- ==== Sys2Proof/Laws/PerInstr.lean ====
section
/-! SUPPORT. Statements about every command as syntax, one lemma per constructor. -/

namespace Sys2Proof.Laws.Fields

/-- 30_encoding.md R68, R69 and R71: the word of a command holds its OP, RSV = 0 and its operand fields, and is
legal. -/
def Statement (i : Instr) : Prop :=
  opField (encode i) = i.op ∧ rsvField (encode i) = 0#4 ∧ bField (encode i) = i.bOperand ∧
    hField (encode i) = i.hOperand ∧ legal (encode i) = true

theorem init (c p hIgn : Byte) : Statement (.init c p hIgn) := by simp [Statement]

theorem trig (ctrl : Byte) (hIgn : Half) : Statement (.trig ctrl hIgn) := by simp [Statement]

theorem rdpair (ra : Byte) (ia : Half) : Statement (.rdpair ra ia) := by simp [Statement]

theorem ldcal (bIgn : Byte) (hIgn : Half) : Statement (.ldcal bIgn hIgn) := by simp [Statement]

theorem ctemp (raw : Half) (bIgn : Byte) : Statement (.ctemp raw bIgn) := by simp [Statement]

theorem cpres (raw : Half) (bIgn : Byte) : Statement (.cpres raw bIgn) := by simp [Statement]

theorem rdtemp (bIgn : Byte) (hIgn : Half) : Statement (.rdtemp bIgn hIgn) := by simp [Statement]

theorem rdpres (bIgn : Byte) (hIgn : Half) : Statement (.rdpres bIgn hIgn) := by simp [Statement]

end Sys2Proof.Laws.Fields
end

