-- ==== Sys2Proof/Laws/Transaction.lean ====
section
/-! SUPPORT. What a transaction in progress does, said once: a step inside it goes on inside it or ends it;
the answers and the moves of others leave it in progress. With them the laws of the calibration table's
writes. Proofs about the invariant cite these. -/

namespace Sys2Proof.Machine

variable {s t : State}

/-! ## Exchanges -/

/-- With no request pending, an exchange under way has its answer. -/
theorem Exchanging.answered {r : BusReq} (h : Exchanging r s) (hn : s.busReq = none) :
    ∃ b, s.busAns = some (answerOf r b) := by
  rcases h with ⟨h, _⟩ | ⟨_, b, h⟩
  · simp [hn] at h
  · exact ⟨b, h⟩

/-- A posted request is an exchange under way. -/
theorem exchanging_post (r : BusReq) (u : State) : Exchanging r (post r u) := .inl ⟨rfl, rfl⟩

/-- The controller's answer keeps the exchange under way. -/
theorem exchanging_answer (b : Byte) {r q : BusReq} (h : Exchanging r s) (hq : s.busReq = some q) :
    Exchanging r (busAnswer b s) := by
  rcases h with ⟨h, _⟩ | ⟨h, _⟩
  · rw [busAnswer_some b h]; exact .inr ⟨rfl, b, rfl⟩
  · simp [hq] at h

/-! ## Transactions -/

/-- A trigger not held goes on inside it, or STOP has been answered and it ends with the failure kept. -/
theorem trigStep_progress (h : InTransaction .trig s) (hn : s.busReq = none) :
    (∃ u, trigStep s = .running u ∧ InTransaction .trig u) ∨
    (∃ u, trigStep s = .ended s.xfail u ∧ s.phase = .stop ∧ s.busAns = some (.done .stop)) := by
  obtain ⟨hs, ⟨r, hr, hx⟩, hf, hc⟩ := h
  obtain ⟨b, hb⟩ := hx.answered hn
  have hf' : s.phase ≠ .stop → s.xfail = none := by
    intro hp
    cases hxf : s.xfail with
    | none => rfl
    | some f => exact absurd (hf f hxf).1 hp
  cases hp : s.phase <;> simp [phaseRequests, hs, hp] at hr
  all_goals try rcases hr with rfl | rfl
  all_goals simp at hb
  all_goals simp [trigStep, hp, hb, endTransaction]
  all_goals try (refine ⟨by simp [hs], ⟨_, ?_, exchanging_post _ _⟩, ?_, by simp [hc]⟩ <;> simp [phaseRequests, hs, hp, hf'])
  all_goals (unfold check; split)
  all_goals (refine ⟨by simp [hs], ⟨_, ?_, exchanging_post _ _⟩, ?_, by simp [hc]⟩ <;> simp [phaseRequests, hs, hp, hf', Phase.checked])

/-- A read not held goes on inside it, or STOP has been answered and it ends with the failure kept. -/
theorem readStep_progress (h : InTransaction .rdpair s) (hn : s.busReq = none) :
    (∃ u, readStep s = .running u ∧ InTransaction .rdpair u) ∨
    (∃ u, readStep s = .ended s.xfail u ∧ s.phase = .stop ∧ s.busAns = some (.done .stop)) := by
  obtain ⟨hs, ⟨r, hr, hx⟩, hf, hc⟩ := h
  obtain ⟨b, hb⟩ := hx.answered hn
  have hf' : s.phase ≠ .stop → s.xfail = none := by
    intro hp
    cases hxf : s.xfail with
    | none => rfl
    | some f => exact absurd (hf f hxf).1 hp
  cases hp : s.phase <;> simp [phaseRequests, hs, hp] at hr
  all_goals try rcases hr with rfl | rfl | rfl | rfl
  all_goals simp at hb
  all_goals simp [readStep, hp, hb, endTransaction]
  all_goals try (refine ⟨by simp [hs], ⟨_, ?_, exchanging_post _ _⟩, ?_, by simp [hc]⟩ <;> simp [phaseRequests, hs, hp, hf'])
  all_goals (unfold check; split)
  all_goals (refine ⟨by simp [hs], ⟨_, ?_, exchanging_post _ _⟩, ?_, by simp [hc]⟩ <;> simp [phaseRequests, hs, hp, hf', Phase.checked])

/-- One step of a command inside a trigger. -/
theorem trig_with (h : InTransaction .trig s) (hn : s.busReq = none) (k : Option XFail → State → State) :
    (∃ u p r xf, trigStep s = .running u ∧ withTransaction (trigStep s) k = .next u ∧ InTransaction .trig u ∧ u = post r { s with phase := p, xfail := xf }) ∨
    (withTransaction (trigStep s) k = .next (k s.xfail { s with xact := .none, xfail := none }) ∧ s.phase = .stop ∧ s.busAns = some (.done .stop)) := by
  rcases trigStep_progress h hn with ⟨u, hu, hi⟩ | ⟨u, hu, hp, ha⟩
  · obtain ⟨p, r, xf, e⟩ := trigStep_running hu
    exact .inl ⟨u, p, r, xf, hu, by rw [hu]; rfl, hi, e⟩
  · obtain ⟨_, _, _, e⟩ := trigStep_ended hu
    exact .inr ⟨by rw [hu, e]; rfl, hp, ha⟩

/-- One step of a command inside a read. -/
theorem read_with (h : InTransaction .rdpair s) (hn : s.busReq = none) (k : Option XFail → State → State) :
    (∃ u p r xf hi lo, readStep s = .running u ∧ withTransaction (readStep s) k = .next u ∧ InTransaction .rdpair u ∧ u = post r { s with phase := p, xfail := xf, dhi := hi, dlo := lo }) ∨
    (withTransaction (readStep s) k = .next (k s.xfail { s with xact := .none, xfail := none }) ∧ s.phase = .stop ∧ s.busAns = some (.done .stop)) := by
  rcases readStep_progress h hn with ⟨u, hu, hi⟩ | ⟨u, hu, hp, ha⟩
  · obtain ⟨p, r, xf, hi', lo, e⟩ := readStep_running hu
    exact .inl ⟨u, p, r, xf, hi', lo, hu, by rw [hu]; rfl, hi, e⟩
  · obtain ⟨_, _, _, e⟩ := readStep_ended hu
    exact .inr ⟨by rw [hu, e]; rfl, hp, ha⟩

/-- A started trigger is in progress. -/
theorem inTransaction_startTrig (tb : Byte) (hc : s.conv.valid = false) : InTransaction .trig (startTrig tb s) :=
  ⟨rfl, ⟨.start, by simp [phaseRequests], .inl ⟨rfl, rfl⟩⟩, by simp, by simp [hc]⟩

/-- A started read is in progress. -/
theorem inTransaction_startRead (ra : Byte) (ia : Half) (hc : s.conv.valid = false) : InTransaction .rdpair (startRead ra ia s) :=
  ⟨rfl, ⟨.start, by simp [phaseRequests], .inl ⟨rfl, rfl⟩⟩, by simp, by simp [hc]⟩

/-- A transaction in progress survives any answer. -/
theorem inTransaction_answer {x : Shape} (b : Byte) {q : BusReq} (h : InTransaction x s) (hq : s.busReq = some q) :
    InTransaction x (busAnswer b s) := by
  obtain ⟨a, ⟨r, hr, hx⟩, c, d⟩ := h
  have e := busAnswer_some b hq
  refine ⟨by simp [e, a], ⟨r, ?_, exchanging_answer b hx hq⟩, by simpa [e] using c, by simp [e, d]⟩
  simpa [e, phaseRequests] using hr

/-- Nothing under way depends on the ports and the transaction registers only. -/
theorem quiet_congr (h : Quiet s) (h1 : t.busReq = s.busReq) (h2 : t.busAns = s.busAns) (h3 : t.xfail = s.xfail)
  (h4 : t.xact = s.xact) (h5 : t.conv = s.conv) : Quiet t := by
  obtain ⟨a,b,c,d,e⟩ := h
  exact ⟨by rw [h1,a], by rw [h2,b], by rw [h3,c], by rw [h4,d], by rw [h5,e]⟩

/-! ## Commands -/

/-- An idle block accepts the command. -/
theorem exec_idle (i : Instr) (hb : s.status.busy = false) : exec i s = .next (accept (encode i) s) := by
  cases i <;> exact runCommand_idle hb

/-- A held block leaves the running command where it is. -/
theorem exec_held (i : Instr) (hb : s.status.busy = true) (hq : held s = true) : exec i s = .next s := by
  cases i <;> exact runCommand_held hb hq

/-! ## The calibration table and CALSTAT -/

theorem setCal_get (cal : Vector Half 11) (i : BitVec 4) (v : Half) (j : Fin 11) :
    (setCal cal i v)[j] = if i.toNat = j.val then v else cal[j] := by
  simp [setCal, Vector.getElem_setIfInBounds]

theorem setBit_get (m : BitVec 11) (i : BitVec 4) (j : Fin 11) :
    (setBit m i).getLsbD j.val = (m.getLsbD j.val || decide (i.toNat = j.val)) := by
  have := j.isLt
  by_cases h : i.toNat = j.val
  · simp [setBit, h]
  · have h2 : ¬ j.val < i.toNat → ¬ j.val - i.toNat = 0 := by omega
    simp only [setBit, BitVec.getLsbD_or, BitVec.getLsbD_shiftLeft, BitVec.getLsbD_one, h, decide_false, Bool.or_false]
    by_cases h3 : j.val < i.toNat
    · simp [h3]
    · simp [h3, h2 h3]

theorem setBit_ne (m : BitVec 11) (i : BitVec 4) (hi : i.toNat ≤ 10) : setBit m i ≠ 0 := by
  intro h
  have := setBit_get m i ⟨i.toNat, by omega⟩
  rw [h] at this
  simp at this

end Sys2Proof.Machine
end

