-- ==== Sys2Proof/Tests/Slice0.lean ====
section
/-! SUPPORT. Tests: ill-formed terms refused, words written out from 30_encoding.md decoded, single steps with
results taken from 95_test_vectors.md and the rules named, and for every statement with hypotheses a state
that meets them. -/

namespace Sys2Proof.Tests

open Sys2Proof.Machine

/-! ## Helpers -/

/-- The reset state under the suggested parameters, the convention of 95_test_vectors.md. -/
def bench : State := { State.reset with cfg := Config.suggested }

/-- The sample table of V-L1-0. -/
def sample : Vector Half 11 :=
  #v[0x0198, 0xFFB8, 0xC7D1, 0x7FE5, 0x7FF5, 0x5A71, 0x182E, 0x0004, 0x8000, 0xDDF9, 0x0B34]

/-- The sample table loaded, with the b5 of V-L1-1. -/
def loaded : State :=
  { bench with
    cal := sample, b5 := 2400, status := { Status.reset with calValid := true, b5Valid := true } }

/-- Command op running. -/
def running (op : BitVec 4) (s : State) : State :=
  { s with opl := op, status := { s.status with busy := true, lastOp := op } }

/-- A transaction whose last answer is a status byte. -/
def atCheck (x : Shape) (p : Phase) (b : Byte) (s : State) : State :=
  { s with xact := x, phase := p, busAns := some (.status b) }

/-- A transaction whose STOP has been answered. -/
def stopped (x : Shape) (f : Option XFail) (s : State) : State :=
  { s with xact := x, phase := .stop, busAns := some (.done .stop), xfail := f }

/-- A view of the next state. -/
def out {α : Type} (f : State → α) : Result → Option α
  | .next s => some (f s)
  | _ => none

/-- The events a step adds. -/
def added (s : State) : Result → List Event
  | .next t => t.events.drop s.events.length
  | _ => []

/-! ## WellFormed (30_encoding.md R76, R77: "An assembler refuses an operand outside its range") -/

theorem test_illformed_init_c : (AsmLine.init 256 0).wellFormed = false := by decide
theorem test_illformed_init_p : (AsmLine.init 0 256).wellFormed = false := by decide
theorem test_illformed_trig : (AsmLine.trig 256).wellFormed = false := by decide
theorem test_illformed_rdpair_ra : (AsmLine.rdpair 256 0).wellFormed = false := by decide
theorem test_illformed_rdpair_ia : (AsmLine.rdpair 0 65536).wellFormed = false := by decide
theorem test_illformed_ctemp : (AsmLine.ctemp 65536).wellFormed = false := by decide
theorem test_illformed_cpres : (AsmLine.cpres 65536).wellFormed = false := by decide
theorem test_illformed_rdcal : (AsmLine.rdcal 11).wellFormed = false := by decide
theorem test_illformed_word : (AsmLine.word (2 ^ 32)).wellFormed = false := by decide
theorem test_illformed_not_assembled :
    (AsmLine.trig 256).assemble Config.suggested = none := by decide
theorem test_not_canonical : (Instr.trig 0 1).canonical = false := by decide

/-- R68: a word has 32 bits (log entry 21). -/
theorem test_word_top :
    (AsmLine.word (2 ^ 32 - 1)).assemble Config.suggested = some 0xFFFFFFFF#32 := by decide

/-! ## Decoding: words written out field by field, H B RSV OP (30_encoding.md R68, R71) -/

theorem test_decode_init :
    decode (0b1010000100100000#16 ++ 0b00000100#8 ++ 0b0000#4 ++ 0b0001#4) =
      .ok (.init 0x04 0x20 0xA1) := by decide
theorem test_decode_trig :
    decode (0b0000000000000001#16 ++ 0b00101110#8 ++ 0b0000#4 ++ 0b0010#4) =
      .ok (.trig 0x2E 1) := by decide
theorem test_decode_rdpair :
    decode (0b1111011011110111#16 ++ 0b11110110#8 ++ 0b0000#4 ++ 0b0011#4) =
      .ok (.rdpair 0xF6 0xF6F7) := by decide
theorem test_decode_ldcal :
    decode (0b0000000000000000#16 ++ 0b00000000#8 ++ 0b0000#4 ++ 0b0100#4) =
      .ok (.ldcal 0 0) := by decide
theorem test_decode_ctemp :
    decode (0b0110110011111010#16 ++ 0b00000000#8 ++ 0b0000#4 ++ 0b0101#4) =
      .ok (.ctemp 27898 0) := by decide
theorem test_decode_cpres :
    decode (0b0101110100100011#16 ++ 0b00000000#8 ++ 0b0000#4 ++ 0b0110#4) =
      .ok (.cpres 23843 0) := by decide
theorem test_decode_rdtemp :
    decode (0b0000000000000000#16 ++ 0b00000000#8 ++ 0b0000#4 ++ 0b0111#4) =
      .ok (.rdtemp 0 0) := by decide
theorem test_decode_rdpres :
    decode (0b0000000000000000#16 ++ 0b00000000#8 ++ 0b0000#4 ++ 0b1000#4) =
      .ok (.rdpres 0 0) := by decide
/-- R73: OP 0 and OP 9 are illegal, and so is RSV = 1 beside a legal OP. -/
theorem test_decode_illegal :
    decode 0x00000000#32 = .error .illegalOp ∧ decode 0xFFFF0009#32 = .error .illegalOp ∧
      decode 0x00000012#32 = .error .reservedBits := by decide
/-- Bits above a table row's width are no part of a word. -/
theorem test_decode_table : decodeTableWord 8 0x104 = some (.ldcal 0 0) ∧
    decodeTableWord 64 (2 ^ 32 + 4) = none := by decide

/-! ## Single steps -/

/-- V-I-1: INIT 0x04, 0x20 issues INIT(0x04, 0x20). -/
theorem test_init_request :
    out (·.busReq) (exec (.init 0x04 0x20 0) (running 1 { bench with bl := 0x04, hl := 0x20 })) =
      some (some (.init 0x04 0x20)) := by decide
/-- V-I-2: INIT after a load keeps CAL_VALID (B5_VALID is 0 there): STATUS 0x01000006. -/
theorem test_init_completes :
    out statusWord (exec (.init 0xFF 0 0)
      { running 1 loaded with
        status := { (running 1 loaded).status with b5Valid := false },
        phase := .initBus, busAns := some (.done (.init 0xFF 0)) }) = some 0x01000006#32 := by decide

/-- R91 and R98: a trigger's START check also takes P_ST_RESTART, and SEND(P_DEV_W) follows. -/
theorem test_trig_restart :
    added bench (exec (.trig 0x2E 0) (atCheck .trig .start 0x10 (running 2 bench))) =
      [.bpReq (.send 0xEE)] := by decide
/-- R86: TRIG failing in DATA_ACK with 0x30 records it; ERR 1, FAIL_XACT 1, FAIL_PHASE 4. -/
theorem test_trig_failed :
    out statusWord (exec (.trig 0x2E 0)
      (stopped .trig (some ⟨0x30, .dataAck, .trig⟩) (running 2 bench))) = some 0x42300122#32 := by decide

/-- R99: a read's START answered with P_ST_RESTART fails and goes to STOP. -/
theorem test_rdpair_restart :
    added bench (exec (.rdpair 0xF6 0xF6F7) (atCheck .rdpair .start 0x10 (running 3 bench))) =
      [.bpReq .stop] := by decide
/-- R55: the first byte read is the high one. -/
theorem test_rdpair_result :
    out (·.result) (exec (.rdpair 0xF6 0xF6F7)
      (stopped .rdpair none (running 3 { bench with dhi := 0x6C, dlo := 0xFA }))) =
      some 27898#16 := by decide

/-- R47, R107: read 10 of the table at 0xAA is from the pair 0xBE, 0xBF. -/
theorem test_ldcal_addresses :
    out (fun t => (t.idx, t.ra, t.ia)) (exec (.ldcal 0 0)
      (stopped .rdpair none (running 4 { bench with stage := 1, idx := 9, dhi := 0xDD, dlo := 0xF9 }))) =
      some (10#4, 0xBE#8, 0xBEBF#16) := by decide
/-- R134: a last word 0xFFFF makes the load BAD_CAL: STATUS 0x04000502. -/
theorem test_ldcal_bad :
    out (fun t => (statusWord t, calstatWord t)) (exec (.ldcal 0 0)
      (stopped .rdpair none
        (running 4 { bench with stage := 1, idx := 10, dhi := 0xFF, dlo := 0xFF }))) =
      some (0x04000502#32, 0x04000000#32) := by decide

/-- V-T-4: a negative denominator; 3729 and B5 0x0000E911. -/
theorem test_ctemp_negative_den :
    out (fun t => (readReg t .temp, t.b5)) (exec (.ctemp 20000 0)
      (running 5 { loaded with phase := .compute, hl := 20000 })) =
      some (3729#32, 0x0000E911#32) := by decide
/-- V-T-6: x1 + cv(10) = 0 is DIV_ZERO, FAIL_PHASE 11, B5_VALID as it was. -/
theorem test_ctemp_div_zero :
    out statusWord (exec (.ctemp 3868 0)
      (running 5 { bench with
        status := { Status.reset with calValid := true },
        cal := (sample.set 4 0x8000).set 5 1000, phase := .compute, hl := 3868 })) =
      some 0xB5000206#32 := by decide

/-- V-P-4: b7 wraps to at least 2^31, and the correction step wraps too. -/
theorem test_cpres_wraps :
    out (·.press) (exec (.cpres 0 0) (running 6 { loaded with phase := .compute })) =
      some 252712#32 := by decide
/-- V-P-6: b4 = 0 is DIV_ZERO: STATUS 0xB600020E. -/
theorem test_cpres_div_zero :
    out statusWord (exec (.cpres 23843 0)
      (running 6 { loaded with cal := sample.set 3 1, b5 := 4385, phase := .compute, hl := 23843 })) =
      some 0xB600020E#32 := by decide

/-- R125: the trigger's outcome asks for the wait, mode TEMP. -/
theorem test_rdtemp_wait :
    added loaded (exec (.rdtemp 0 0) (stopped .trig none (running 7 { loaded with stage := 1 }))) =
      [.convReq .temp] := by decide
/-- V-L1-1 through stage 4: rawl 27898 gives 150. -/
theorem test_rdtemp_compute :
    out (·.temp) (exec (.rdtemp 0 0)
      (running 7 { loaded with stage := 4, phase := .compute, rawl := 27898 })) =
      some 150#16 := by decide

/-- R127: RDPRES triggers with P_PRESS_CTRL. -/
theorem test_rdpres_control :
    out (·.tb) (exec (.rdpres 0 0) (running 8 { loaded with stage := 1 })) = some 0x34#8 := by decide
/-- V-L1-2 through stage 4: rawl 23843 gives 69964. -/
theorem test_rdpres_compute :
    out (·.press) (exec (.rdpres 0 0)
      (running 8 { loaded with stage := 4, phase := .compute, rawl := 23843 })) =
      some 69964#32 := by decide

/-- R77: WAITDONE is over when the host has read BUSY = 0. -/
theorem test_waitdone :
    out waitDoneOver (step { bench with moves := [getMove .status] }) = some true ∧
    out waitDoneOver (step { running 2 bench with moves := [getMove .status] }) = some false := by decide

/-- A table word placed in the reset state is run by the very next step. -/
theorem test_fetch_word :
    step (State.reset.withFetchWord 8 0x04) = exec (.ldcal 0 0) State.reset := by rfl

/-- V-H-2: an illegal word with OP 2: STATUS 0x02000402. -/
theorem test_illegal_status :
    out statusWord (step { bench with moves := [issueMove 0x00000012] }) = some 0x02000402#32 := by decide
/-- V-H-6: RDPRES after reset: STATUS 0x08000302. -/
theorem test_uncalibrated_status :
    out statusWord (step { bench with moves := [issueMove 0x00000008] }) = some 0x08000302#32 := by decide
/-- V-L1-0: CAL1 reads 0x0000FFB8 at offset 0x24. -/
theorem test_read_cal1 : windowRead loaded 0x24 = 0x0000FFB8#32 := by decide

/-! ## Witnesses: states and operands that meet the hypotheses of the statements -/

/-- TRIG with its first request pending. -/
def asking : State := { running 2 bench with xact := .trig, phase := .start, busReq := some .start }

/-- RDTEMP in its conversion wait, with the history of its trigger (R91, V-Q-1). -/
def waiting : State :=
  { running 7 loaded with
    stage := 2, phase := .waitConv, tb := 0x2E, conv := ⟨true, .temp⟩,
    events := .cmdAccepted 7 ::
      tradeEvents (goodTrigger Config.suggested 0x2E 0x08 (fun _ => 0) ++ [(.stop, 0)]) ++
      [.convReq .temp] }

/-- RDPRES in its conversion wait, with the history of its trigger (R91). -/
def waitingPress : State :=
  { running 8 loaded with
    status := { (running 8 loaded).status with b5Valid := true }
    stage := 2, phase := .waitConv, tb := 0x34, conv := ⟨true, .press⟩,
    events := .cmdAccepted 8 ::
      tradeEvents (goodTrigger Config.suggested 0x34 0x08 (fun _ => 0) ++ [(.stop, 0)]) ++
      [.convReq .press] }

theorem quiet_bench : Quiet bench := ⟨rfl, rfl, rfl, rfl, rfl⟩
theorem quiet_loaded : Quiet loaded := ⟨rfl, rfl, rfl, rfl, rfl⟩

theorem inv_loaded : Inv loaded where
  busyNotDone := by decide
  idlePhase := by decide
  failXactFits := by decide
  busStatusFits := by decide
  failPhaseLegal := by decide
  runningClear := by decide
  idleQuiet := fun _ => ⟨quiet_loaded, rfl⟩
  lastOp := by decide
  running := fun h => absurd h (by decide)
  validTable := by decide
  b5OfTable := by decide
  needsMet := by decide
  loading := fun h => absurd h (by decide)

theorem inv_asking : Inv asking where
  busyNotDone := by decide
  idlePhase := by decide
  failXactFits := by decide
  busStatusFits := by decide
  failPhaseLegal := by decide
  runningClear := by decide
  idleQuiet := fun h => absurd h (by decide)
  lastOp := by decide
  running := fun _ =>
    ⟨rfl, .inr ⟨⟨rfl, ⟨.start, by decide, .inl ⟨rfl, rfl⟩⟩, by simp [asking, running, bench, State.reset],
      rfl⟩, rfl⟩⟩
  validTable := by decide
  b5OfTable := by decide
  needsMet := by decide
  loading := fun _ h => absurd h (by decide)

theorem inv_waiting : Inv waiting where
  busyNotDone := by decide
  idlePhase := by decide
  failXactFits := by decide
  busStatusFits := by decide
  failPhaseLegal := by decide
  runningClear := by decide
  idleQuiet := fun h => absurd h (by decide)
  lastOp := by decide
  running := fun _ => .inr (.inr (.inl ⟨rfl, rfl, rfl, rfl, rfl, rfl, rfl, rfl⟩))
  validTable := by decide
  b5OfTable := by decide
  needsMet := by decide
  loading := fun _ h => absurd h (by decide)

theorem inv_waitingPress : Inv waitingPress where
  busyNotDone := by decide
  idlePhase := by decide
  failXactFits := by decide
  busStatusFits := by decide
  failPhaseLegal := by decide
  runningClear := by decide
  idleQuiet := fun h => absurd h (by decide)
  lastOp := by decide
  running := fun _ => .inr (.inr (.inl ⟨rfl, rfl, rfl, rfl, rfl, rfl, rfl, rfl⟩))
  validTable := by decide
  b5OfTable := by decide
  needsMet := by decide
  loading := fun _ h => absurd h (by decide)

theorem witness_DecodeAndEncodeAgree : decode 0xFFFFFF04#32 = .ok (.ldcal 0xFF 0xFFFF) := by decide

theorem witness_DecodeByOpAndRsv :
    (0x10#32).toNat / 16 % 16 ≠ 0 ∧ (0xF0#32).toNat % 16 = 0 ∧ 9 ≤ (0x09#32).toNat % 16 ∧
    9 ≤ (0x0F#32).toNat % 16 ∧
    ∀ n ∈ [1, 2, 3, 4, 5, 6, 7, 8], (BitVec.ofNat 32 (0xFFFFFF00 + n)).toNat / 16 % 16 = 0 ∧
      (BitVec.ofNat 32 (0xFFFFFF00 + n)).toNat % 16 = n := by decide

/-- Idle and running; the ignored fields differ, in the words and in the latches. -/
theorem witness_IgnoredFieldsHaveNoEffect :
    clearIgnored (encode (.ldcal 0xFF 0xFFFF)) = clearIgnored (encode (.ldcal 0 0)) ∧
    clearIgnored (encode (.init 1 2 0xFF)) = clearIgnored (encode (.init 1 2 0)) ∧
    { running 4 bench with bl := 0xFF, hl := 0xFFFF }.clearIgnored = (running 4 bench).clearIgnored ∧
    (running 4 bench).opl = (Instr.ldcal 0xFF 0xFFFF).op ∧
    out (·.phase) (exec (.ldcal 0xFF 0xFFFF) (running 4 bench)) = some .start ∧
    out (·.status.busy) (exec (.ldcal 0xFF 0xFFFF) bench) = some true := by decide

theorem witness_ResetStep : { asking with moves := [.rst] }.moves = .rst :: [] := rfl

theorem witness_ResetDropsTheCommand :
    ∀ m ∈ [Move.sequencer, .timerAnswer, .busAnswer 8],
      m = .sequencer ∨ m = .timerAnswer ∨ ∃ b, m = .busAnswer b := by simp

theorem witness_HostReadReturns :
    (∀ off ∈ [0x00#8, 0x04, 0x08, 0x0C, 0x10, 0x14, 0x18, 0x1C, 0x20, 0x48, 0x4C, 0xFC],
      off.toNat % 4 = 0) ∧ (0x20#8).toNat = 0x20 + 4 * (0 : Fin 11).val ∧
    (0x48#8).toNat = 0x20 + 4 * (10 : Fin 11).val ∧ 0x4C ≤ (0x4C#8).toNat ∧
    { bench with moves := [.hostRead 0x48 4] }.moves = .hostRead 0x48 4 :: [] := by decide

theorem witness_OnlyWordAccessesHaveAStep :
    (2 ≠ 4 ∧ (0x00#8).toNat % 4 = 0) ∧ (0xFD#8).toNat % 4 ≠ 0 ∧ (4 = 4 ∧ (0xFC#8).toNat % 4 = 0) := by
  decide

theorem witness_OtherWritesAreIgnored :
    (0x04#8).toNat % 4 = 0 ∧ 0x04#8 ≠ 0x00#8 ∧ (0xFC#8).toNat % 4 = 0 ∧ 0xFC#8 ≠ 0x00#8 ∧
    { bench with moves := [.hostWrite 0x04 4 7] }.moves = .hostWrite 0x04 4 7 :: [] := by decide

theorem witness_BusyCommandWriteIsRejected :
    asking.status.busy = true ∧
    { asking with moves := [issueMove 4] }.moves = .hostWrite 0x00 4 4 :: [] := by decide

/-- The four clauses: an illegal word; no table, a table without b5; a command that starts; LDCAL. -/
theorem witness_AcceptedCommandWrite :
    bench.status.busy = false ∧ { bench with moves := [issueMove 4] }.moves = .hostWrite 0x00 4 4 :: [] ∧
    legal 0x00000009#32 = false ∧
    (legal 0x00000005#32 = true ∧ (0x00000005#32).extractLsb' 0 4 = 5#4 ∧ bench.status.calValid = false) ∧
    (legal 0x00000008#32 = true ∧ (0x00000008#32).extractLsb' 0 4 = 8#4 ∧
      { loaded with status := { loaded.status with b5Valid := false } }.status.b5Valid = false) ∧
    (legal 0x00000008#32 = true ∧ loaded.status.calValid = true ∧ loaded.status.b5Valid = true ∧
      (0x00000008#32).extractLsb' 0 4 ≠ 4#4) ∧
    (legal 0x00000004#32 = true ∧ (0x00000004#32).extractLsb' 0 4 = 4#4) := by decide

theorem witness_IllegalWord :
    { bench with moves := [issueMove 0x12] }.moves = .hostWrite 0x00 4 0x12 :: [] ∧
    legal 0x12#32 = false ∧ legal 0x09#32 = false ∧ legal 0#32 = false ∧ bench.status.busy = false ∧
    asking.status.busy = true := by decide

theorem witness_UncalibratedCommands :
    bench.status.busy = false ∧ bench.status.calValid = false ∧ (Instr.ctemp 1 0).op = 5#4 ∧
    (Instr.rdpres 0 0).op = 8#4 ∧
    { loaded with status := { loaded.status with b5Valid := false } }.status.b5Valid = false ∧
    (Instr.ldcal 0 0).op = 4#4 ∧ loaded.status.calValid = true ∧ loaded.status.b5Valid = true := by decide

theorem witness_StepRunsTheDecodedCommand :
    (bench.status.busy = false ∧ { bench with moves := [issueMove 4] }.moves = .hostWrite 0x00 4 4 :: [] ∧
      decode 4#32 = .ok (.ldcal 0 0)) ∧
    (asking.status.busy = true ∧ asking.moves = [] ∧ decode (latchedWord asking) = .ok (.trig 0 0) ∧
      { asking with moves := [.sequencer] }.moves = .sequencer :: []) ∧
    out (·.status.busy) (exec (.ldcal 0 0) bench) = some true := by decide

theorem witness_HostCannotDisturb :
    (Move.hostRead 0x04 4).isHost = true ∧ (issueMove 4).isHost = true ∧
    out (·.status.reject) (step { asking with moves := [issueMove 4] }) = some true ∧
    out (·.status.reject) (step { asking with moves := [.hostRead 0x04 4] }) = some false ∧
    { asking with status := { asking.status with reject := true } }.withoutHost = asking.withoutHost ∧
    (Move.busAnswer 8).isHost = false ∧
    out (·.busReq) (step { asking with moves := [.busAnswer 8] }) = some none := by decide

/-- A sequencer step that requests, one that does not; an answer with a byte, one without. -/
theorem witness_BusHandshake :
    ((running 2 bench).busReq = none ∧
      out (·.busReq) (step { running 2 bench with moves := [.sequencer] }) = some (some .start)) ∧
    (bench.busReq = none ∧ out (·.busReq) (step { bench with moves := [.sequencer] }) = some none) ∧
    asking.busReq = some .start ∧ { asking with busReq := some .status }.busReq = some .status ∧
    { asking with moves := [.busAnswer 8] }.moves = .busAnswer 8 :: [] ∧
    asking.status.busy = true := by decide

theorem witness_ConversionWaitHandshake :
    waiting.conv.valid = true ∧ waiting.status.busy = true ∧
    { waiting with moves := [.timerAnswer] }.moves = .timerAnswer :: [] ∧ asking.conv.valid = false ∧
    { asking with moves := [.timerAnswer] }.moves = .timerAnswer :: [] := by decide

theorem witness_NoTimeout :
    (Inv asking ∧ asking.busReq = some .start ∧
      ∀ m ∈ [Move.sequencer, .timerAnswer, issueMove 4, .hostRead 0x04 4],
        m ≠ .rst ∧ m.isBusAnswer = false ∧ m.defined = true) ∧
    (Inv waiting ∧ waiting.conv.valid = true ∧
      ∀ m ∈ [Move.sequencer, .busAnswer 8, issueMove 4, .hostRead 0x04 4],
        m ≠ .rst ∧ m ≠ .timerAnswer ∧ m.defined = true) :=
  ⟨⟨inv_asking, rfl, by decide⟩, inv_waiting, rfl, by decide⟩

/-- The two shapes; a first and a last pair of requests of a phase; a byte that passes, one that fails. -/
theorem witness_PhaseTable :
    (let s := { running 2 bench with xact := .trig, phase := .start, busAns := some (.done .start) };
      s.status.busy = true ∧ held s = false ∧ Transacting (.trig 0 0) s ∧
      ∃ row, phaseRow s = some row ∧ row.requests[0]? = some .start ∧
        row.requests[1]? = some .status ∧ s.busAns = some (answerOf .start 0)) ∧
    (let s := { running 4 bench with xact := .rdpair, phase := .readLsbNack, busAns := some (.read 7) };
      s.status.busy = true ∧ held s = false ∧ Transacting (.ldcal 0 0) s ∧
      ∃ row, phaseRow s = some row ∧ row.requests[2]? = some .read ∧
        row.requests[3]? = some .status ∧ s.busAns = some (answerOf .read 7)) ∧
    (let s := { atCheck .rdpair .readLsbNack 0x58 (running 7 loaded) with stage := 3 };
      s.status.busy = true ∧ held s = false ∧ Transacting (.rdtemp 0 0) s ∧
      ∃ row, phaseRow s = some row ∧ 0x58#8 ∈ row.passes ∧ 0x50#8 ∉ row.passes) :=
  ⟨⟨rfl, rfl, rfl, _, rfl, rfl, rfl, rfl⟩, ⟨rfl, rfl, rfl, _, rfl, rfl, rfl, rfl⟩,
    rfl, rfl, .inr ⟨rfl, rfl⟩, _, rfl, by decide, by decide⟩

theorem witness_InitSteps :
    (let s := { running 1 bench with bl := 4, hl := 0xA1#8 ++ 0x20#8 };
      s.status.busy = true ∧ held s = false ∧ s.bl = 4 ∧ s.hl = 0xA1#8 ++ 0x20#8 ∧ s.phase = .idle) ∧
    (let s := { running 1 bench with
        bl := 4, hl := 0xA1#8 ++ 0x20#8, phase := .initBus, busAns := some (.done (.init 4 0x20)) };
      s.status.busy = true ∧ held s = false ∧ s.phase = .initBus ∧
      s.busAns = some (.done (.init 4 0x20))) := by decide

theorem witness_TrigSteps :
    (let s := running 2 bench;
      s.status.busy = true ∧ held s = false ∧ s.bl = 0 ∧ s.xact = .none) ∧
    (let s := stopped .trig none (running 2 bench);
      s.status.busy = true ∧ held s = false ∧ s.bl = 0 ∧ s.xact ≠ .none ∧ s.phase = .stop ∧
      s.busAns = some (.done .stop) ∧ s.xfail = none) ∧
    (let s := stopped .trig (some ⟨0, .start, .trig⟩) (running 2 bench);
      s.status.busy = true ∧ held s = false ∧ s.bl = 0 ∧ s.xact ≠ .none ∧ s.phase = .stop ∧
      s.busAns = some (.done .stop) ∧ s.xfail = some ⟨0, .start, .trig⟩) := by decide

theorem witness_RdpairSteps :
    (let s := { running 3 bench with bl := 0xF6, hl := 0xF6F7 };
      s.status.busy = true ∧ held s = false ∧ s.bl = 0xF6 ∧ s.hl = 0xF6F7 ∧ s.xact = .none) ∧
    (let s := stopped .rdpair none (running 3 bench);
      s.status.busy = true ∧ held s = false ∧ s.bl = 0 ∧ s.hl = 0 ∧ s.xact ≠ .none ∧
      s.phase = .stop ∧ s.busAns = some (.done .stop) ∧ s.xfail = none) ∧
    (let s := stopped .rdpair (some ⟨0, .readLsbNack, .rdpair⟩) (running 3 bench);
      s.status.busy = true ∧ held s = false ∧ s.xact ≠ .none ∧ s.phase = .stop ∧
      s.busAns = some (.done .stop) ∧ s.xfail = some ⟨0, .readLsbNack, .rdpair⟩) := by decide

/-- An idle quiet block; both START bytes; the first and the last check failing. -/
theorem witness_TrigRun :
    bench.status.busy = false ∧ Quiet bench ∧ bench.cfg.stStart = 0x08 ∧ bench.cfg.stRestart = 0x10 ∧
    ((1, .start, [0x08, 0x10]) ∈ trigChecks bench.cfg ∧ 0x18#8 ∉ [0x08#8, 0x10]) ∧
    ((7, .dataAck, [0x28]) ∈ trigChecks bench.cfg ∧ 0x30#8 ∉ [0x28#8]) :=
  ⟨rfl, quiet_bench, rfl, rfl, by decide, by decide⟩

theorem witness_RdpairRun :
    bench.status.busy = false ∧ Quiet bench ∧
    ((1, .start, [0x08]) ∈ readChecks bench.cfg ∧ 0x10#8 ∉ [0x08#8]) ∧
    ((12, .readMsb, [0x50]) ∈ readChecks bench.cfg ∧ 0x58#8 ∉ [0x50#8]) ∧
    ((16, .readLsbNack, [0x58]) ∈ readChecks bench.cfg ∧ 0x50#8 ∉ [0x58#8]) :=
  ⟨rfl, quiet_bench, by decide, by decide, by decide⟩

/-- Read 0 succeeding and read 10 failing, as the first failure and as a later one. -/
theorem witness_LdcalReadOutcome :
    (let s := stopped .rdpair none (running 4 bench);
      s.status.busy = true ∧ held s = false ∧ s.xact = .rdpair ∧ s.phase = .stop ∧
      s.busAns = some (.done .stop) ∧ s.idx.toNat ≤ 10 ∧ s.xfail = none) ∧
    (let s := { stopped .rdpair (some ⟨0, .start, .rdpair⟩) (running 4 bench) with idx := 10 };
      s.status.busy = true ∧ held s = false ∧ s.xact = .rdpair ∧ s.phase = .stop ∧
      s.busAns = some (.done .stop) ∧ s.idx.toNat ≤ 10 ∧ s.xfail = some ⟨0, .start, .rdpair⟩ ∧
      s.ffail = false ∧ { s with ffail := true }.ffail = true) := by decide

theorem witness_LdcalNextRead :
    (let s := running 4 bench;
      s.status.busy = true ∧ held s = false ∧ s.xact = .none) ∧
    (let s := { stopped .rdpair none (running 4 bench) with idx := 9 };
      s.status.busy = true ∧ held s = false ∧ s.xact ≠ .none ∧ s.phase = .stop ∧
      s.busAns = some (.done .stop) ∧ s.idx.toNat < 10) := by decide

/-- The last read failing first, an earlier failure, and no failure with and without a bad value. -/
theorem witness_LdcalCompletion :
    (let s := { stopped .rdpair (some ⟨0, .start, .rdpair⟩) (running 4 bench) with idx := 10 };
      s.status.busy = true ∧ held s = false ∧ s.xact = .rdpair ∧ s.phase = .stop ∧
      s.busAns = some (.done .stop) ∧ s.idx.toNat = 10 ∧ s.xfail = some ⟨0, .start, .rdpair⟩ ∧
      s.ffail = false ∧ { s with ffail := true }.ffail = true) ∧
    (let s := { stopped .rdpair none (running 4 bench) with idx := 10, dlo := 1 };
      held s = false ∧ s.idx.toNat = 10 ∧ s.xfail = none ∧ s.ffail = false ∧
      out (·.calstat.badValue) (exec (.ldcal 0 0) s) = some 0 ∧
      out (·.calstat.badValue) (exec (.ldcal 0 0) { s with dlo := 0 }) ≠ some 0) := by decide

theorem witness_LdcalRun :
    bench.status.busy = false ∧ Quiet bench ∧
    (∃ i : Fin 11, (fun _ => 0xFFFF#16 : Fin 11 → Half) i = 0x0000#16 ∨
      (fun _ => 0xFFFF#16 : Fin 11 → Half) i = 0xFFFF#16) ∧
    ¬ ∃ i : Fin 11, sample[i] = 0x0000#16 ∨ sample[i] = 0xFFFF#16 :=
  ⟨rfl, quiet_bench, by decide, by decide⟩

theorem witness_CalValidTellsTheLastLoad : Reachable bench := .reset _

theorem witness_ArithmeticOperators :
    0 ≤ 31 ∧ 31 ≤ 31 ∧ 1#32 ≠ 0 ∧ 0xFFFFFFFF#32 ≠ 0 := by decide

theorem witness_CalibrationReading :
    Config.suggested.calSigned.getLsbD (0 : Fin 11).val = true ∧
    Config.suggested.calSigned.getLsbD (10 : Fin 11).val = false := by decide

/-- A zero denominator (V-T-6) and V-L1-1. -/
theorem witness_TemperatureIsTheExactFormula :
    Config.suggested.calSigned = Config.defaultSigned ∧
    exactTemp 3868 (-32768) 1000 (-8711) 2868 = none ∧
    exactTemp 27898 32757 23153 (-8711) 2868 = some (150, 2400) := by decide

theorem witness_PressureQuotientBits :
    1#32 ≠ 0 ∧ (0x7FFFFFFF#32).toNat < 0x80000000 ∧ 0x80000000 ≤ (0x80000000#32).toNat ∧
    2 ^ 31 ≤ (pressQuotient 0x40000000 1).toNat ∧ (0x40000000#32).toNat < 0x80000000 := by decide

theorem witness_FormulasArePure :
    Config.suggested.calSigned = { Config.suggested with devW := 0 }.calSigned ∧
    Config.suggested.upSource = { Config.suggested with devW := 0 }.upSource := by decide

theorem witness_SampleResults : Config.suggested.calSigned = Config.defaultSigned := rfl

theorem witness_RawEqualToCal5Divides :
    Inv loaded ∧ loaded.status.calValid = true ∧ loaded.cfg.calSigned = Config.defaultSigned :=
  ⟨inv_loaded, rfl, rfl⟩

theorem witness_CtempSteps :
    (let s := { running 5 loaded with hl := 27898 };
      s.status.busy = true ∧ held s = false ∧ s.hl = 27898 ∧ s.phase = .idle ∧
      { s with phase := .compute }.phase = .compute ∧ tempf s.cfg s.cal 27898 = some (150, 2400)) ∧
    (let s := { running 5 loaded with
        hl := 3868, cal := (sample.set 4 0x8000).set 5 1000, phase := .compute };
      s.status.busy = true ∧ held s = false ∧ s.hl = 3868 ∧ s.phase = .compute ∧
      tempf s.cfg s.cal 3868 = none) := by decide

theorem witness_CpresSteps :
    (let s := { running 6 loaded with hl := 23843 };
      s.status.busy = true ∧ held s = false ∧ s.hl = 23843 ∧ s.phase = .idle ∧
      { s with phase := .compute }.phase = .compute ∧ presf s.cfg s.cal s.b5 23843 = some 69964) ∧
    (let s := { running 6 loaded with
        hl := 23843, cal := sample.set 3 1, b5 := 4385, phase := .compute };
      s.status.busy = true ∧ held s = false ∧ s.hl = 23843 ∧ s.phase = .compute ∧
      presf s.cfg s.cal s.b5 23843 = none) := by decide

/-- Every stage of both commands. -/
theorem witness_CompositeReadStages :
    ∀ op ∈ [7#4, 8#4], ∀ f ∈ [none, some (XFail.mk 0 .start .trig)],
      (let s := running op loaded;
        s.status.busy = true ∧ held s = false ∧ s.stage = 0 ∧ { s with stage := 1 }.xact = .none ∧
        { s with stage := 2 }.stage = 2 ∧ { s with stage := 3 }.xact = .none) ∧
      (let s := { stopped .trig f (running op loaded) with stage := 1 };
        s.status.busy = true ∧ held s = false ∧ s.stage = 1 ∧ s.xact = .trig ∧ s.phase = .stop ∧
        s.busAns = some (.done .stop) ∧ s.xfail = f) ∧
      (let s := { stopped .rdpair f (running op loaded) with stage := 3 };
        s.status.busy = true ∧ held s = false ∧ s.stage = 3 ∧ s.xact = .rdpair ∧ s.phase = .stop ∧
        s.busAns = some (.done .stop) ∧ s.xfail = f) := by decide

theorem witness_CompositeReadCompute :
    (let s := { running 7 loaded with stage := 4, rawl := 27898 };
      s.status.busy = true ∧ held s = false ∧ s.stage = 4 ∧
      tempf s.cfg s.cal s.rawl = some (150, 2400)) ∧
    (let s := { running 7 loaded with
        stage := 4, rawl := 3868, cal := (sample.set 4 0x8000).set 5 1000 };
      s.status.busy = true ∧ held s = false ∧ s.stage = 4 ∧ tempf s.cfg s.cal s.rawl = none) ∧
    (let s := { running 8 loaded with stage := 4, rawl := 23843 };
      s.status.busy = true ∧ held s = false ∧ s.stage = 4 ∧
      presf s.cfg s.cal s.b5 s.rawl = some 69964) ∧
    (let s := { running 8 loaded with stage := 4, rawl := 23843, cal := sample.set 3 1, b5 := 4385 };
      s.status.busy = true ∧ held s = false ∧ s.stage = 4 ∧
      presf s.cfg s.cal s.b5 s.rawl = none) := by decide

theorem witness_CompositeReadRun :
    loaded.status.busy = false ∧ Quiet loaded ∧ loaded.status.calValid = true ∧
    loaded.status.b5Valid = true ∧ (0x08#8 = loaded.cfg.stStart ∧ 0x10#8 = loaded.cfg.stRestart) ∧
    (tempf loaded.cfg loaded.cal (0x6C#8 ++ 0xFA#8) = some (150, 2400) ∧
      tempf loaded.cfg ((sample.set 4 0x8000).set 5 1000) (0x0F#8 ++ 0x1C#8) = none) ∧
    (presf loaded.cfg loaded.cal loaded.b5 (0x5D#8 ++ 0x23#8) = some 69964 ∧
      presf loaded.cfg (sample.set 3 1) 4385 (0x5D#8 ++ 0x23#8) = none) :=
  ⟨rfl, quiet_loaded, rfl, rfl, ⟨rfl, rfl⟩, by decide, by decide⟩

theorem witness_StepKeepsInv :
    Inv asking ∧ (∃ t, step asking = .next t) ∧
    (Inv loaded ∧ ∃ t, step { loaded with moves := [issueMove 8] } = .next t) :=
  ⟨inv_asking, ⟨_, rfl⟩, inv_loaded, _, rfl⟩

/-- A move that R48 refuses, and one that it defines. -/
theorem witness_OnlyUndefinedAccessesStop :
    Inv loaded ∧ (Move.hostRead 0x01 4).defined = false ∧ (Move.hostRead 0x04 4).defined = true :=
  ⟨inv_loaded, by decide, by decide⟩

/-- An idle block and any command; a running one and the command its latches hold. -/
theorem witness_EveryCommandAnswers :
    (Inv loaded ∧ ¬ loaded.status.busy = true) ∧
    (Inv asking ∧ decode (latchedWord asking) = .ok (.trig 0 0)) :=
  ⟨⟨inv_loaded, by decide⟩, inv_asking, by decide⟩

/-- Reachable states: an idle one, and a busy one. -/
theorem witness_StatusInvariants :
    Reachable bench ∧ ∃ t, Reachable t ∧ (windowRead t 0x04).getLsbD 0 = true :=
  ⟨.reset _, _, .step bench _ [issueMove 0x00002E02] (.reset _) rfl, by decide⟩

/-- The record's three kinds: none, BUS_PHASE and DIV_ZERO. -/
theorem witness_StatusFieldsAreLegal :
    Inv loaded ∧
    (∃ s, Inv s ∧ (windowRead s 0x04).extractLsb' 8 4 = 1#4) ∧
    (∃ s, Inv s ∧ (windowRead s 0x04).extractLsb' 8 4 = 2#4) := by
  refine ⟨inv_loaded,
    ⟨{ loaded with status := { loaded.status with
        err := .busPhase, failXact := .trig, failPhase := .readLsbNack } }, ?_, by decide⟩,
    ⟨{ loaded with status := { loaded.status with err := .divZero, failPhase := .compute } }, ?_,
      by decide⟩⟩
  all_goals
    exact
      { busyNotDone := by decide, idlePhase := by decide, failXactFits := by decide,
        busStatusFits := by decide, failPhaseLegal := by decide, runningClear := by decide,
        idleQuiet := fun _ => ⟨⟨rfl, rfl, rfl, rfl, rfl⟩, rfl⟩, lastOp := by decide,
        running := fun h => absurd h (by decide), validTable := by decide, b5OfTable := by decide,
        needsMet := by decide, loading := fun h => absurd h (by decide) }

theorem witness_BusIsFreeDuringTheWait :
    (Inv waiting ∧ TraceInv waiting ∧ waiting.conv.valid = true ∧ waiting.conv.mode = .temp) ∧
    (Inv waitingPress ∧ TraceInv waitingPress ∧ waitingPress.conv.valid = true ∧
      waitingPress.conv.mode = .press) :=
  ⟨⟨inv_waiting, by unfold TraceInv; decide, rfl, rfl⟩,
    inv_waitingPress, by unfold TraceInv; decide, rfl, rfl⟩

theorem witness_StepKeepsTrace :
    Inv waiting ∧ TraceInv waiting ∧ ∃ t, step { waiting with moves := [.timerAnswer] } = .next t :=
  ⟨inv_waiting, by unfold TraceInv; decide, _, rfl⟩

/-- Steps that change TEMP, PRESS, a table entry and RESULT, and the acceptance of an LDCAL. -/
theorem witness_RegisterWriters :
    out (·.temp) (step { running 5 loaded with phase := .compute, hl := 27898 }) = some 150 ∧
    out (·.press) (step { running 6 loaded with phase := .compute, hl := 23843 }) = some 69964 ∧
    out (·.cal[0]) (step { stopped .rdpair none (running 4 bench) with dlo := 5 }) = some 5 ∧
    out (·.result) (step { stopped .rdpair none (running 3 bench) with dlo := 5 }) = some 5 ∧
    out (·.status.calValid) (step { loaded with moves := [issueMove 4] }) = some false := by decide

theorem witness_B5Rule :
    (let s := { running 5 loaded with hl := 27898, phase := .compute };
      s.status.busy = true ∧ held s = false ∧ s.hl = 27898 ∧ s.phase = .compute ∧
      tempf s.cfg s.cal 27898 = some (150, 2400)) ∧
    (let s := { running 7 loaded with
        rawl := 3868, stage := 4, cal := (sample.set 4 0x8000).set 5 1000 };
      s.status.busy = true ∧ held s = false ∧ s.rawl = 3868 ∧ s.stage = 4 ∧
      tempf s.cfg s.cal 3868 = none) ∧
    loaded.status.busy = false ∧
    out (·.status.b5Valid) (exec (.ldcal 0 0) loaded) = some false := by decide

theorem witness_FairRunsComplete :
    (Inv asking ∧ asking.status.busy = true) ∧ (Inv waiting ∧ waiting.status.busy = true) :=
  ⟨⟨inv_asking, rfl⟩, inv_waiting, rfl⟩

/-- R86, R91: a TRIG whose START check passes and whose ADDR_ACK check fails; each byte stands with its
own step, counted from the start. -/
theorem test_fair_run_bytes :
    let bytes (k : Nat) : Byte := if k = 2 then 0x08 else if k = 6 then 0x20 else 0
    (match fairRun bytes 10 asking with
      | .next t => some (t.status.busy, t.status.err, t.status.failPhase, t.status.busStatus)
      | _ => none) = some (false, .busPhase, .addrAck, 0x20#8) := by decide

/-- A step that goes on and a step that completes. -/
theorem witness_FrameRunning :
    asking.status.busy = true ∧ out (·.status.busy) (exec (.trig 0 0) asking) = some true ∧
    out (·.status.busy) (exec (.trig 0 0) (stopped .trig none (running 2 bench))) = some false := by
  decide

theorem witness_FrameBusCommands :
    out (·.phase) (exec (.init 0 0 0) (running 1 bench)) = some .initBus ∧
    out (·.phase) (exec (.trig 0 0) (running 2 bench)) = some .start ∧
    out (·.result) (exec (.rdpair 0 0) (stopped .rdpair none (running 3 { bench with dlo := 1 }))) =
      some 1 := by decide

/-- Acceptance, and the end of read 1, which leaves entry 0. -/
theorem witness_FrameLdcal :
    out (·.status.busy) (exec (.ldcal 0 0) loaded) = some true ∧ loaded.status.busy = false ∧
    out (·.cal[1]) (exec (.ldcal 0 0) { stopped .rdpair none (running 4 bench) with idx := 1, dlo := 5 }) =
      some 5 ∧
    (0 : Fin 11).val ≠ (1#4).toNat := by decide

theorem witness_FrameComputeCommands :
    out (·.phase) (exec (.ctemp 1 0) (running 5 loaded)) = some .compute ∧
    out (·.phase) (exec (.cpres 1 0) (running 6 loaded)) = some .compute := by decide

theorem witness_FrameCompositeReads :
    out (·.result) (exec (.rdtemp 0 0)
      { stopped .rdpair none (running 7 loaded) with stage := 3, dlo := 5 }) = some 5 ∧
    out (·.temp) (exec (.rdtemp 0 0) { running 7 loaded with stage := 4, rawl := 27898 }) = some 150 ∧
    out (·.press) (exec (.rdpres 0 0) { running 8 loaded with stage := 4, rawl := 23843 }) =
      some 69964 := by decide

end Sys2Proof.Tests
end

section
/-! PROOF. Where a running command stands (`CommandAt`), command by command, and the moves of the other
agents: host reads, ignored and rejected writes, the answers of the bus controller and of the delay timer.
None of them moves the running command, so each keeps the invariant. -/

namespace Sys2Proof.Machine

variable {s t : State}

theorem held_eq_false : held s = false ↔ s.busReq = none ∧ s.conv.valid = false := by
  simp [held]

/-! ## Where a command stands, by its OP -/

theorem commandAt_init (ho : s.opl = 0x1#4) :
    CommandAt s ↔ s.stage = 0 ∧ s.xfail = none ∧ s.xact = .none ∧ s.conv.valid = false ∧
      ((s.phase = .idle ∧ Quiet s) ∨
       (s.phase = .initBus ∧ Exchanging (.init s.bl (loByte s.hl)) s)) := by
  simp [CommandAt, ho]

theorem commandAt_trig (ho : s.opl = 0x2#4) :
    CommandAt s ↔ s.stage = 0 ∧
      ((s.phase = .idle ∧ Quiet s) ∨ (InTransaction .trig s ∧ s.tb = s.bl)) := by
  simp [CommandAt, ho]

theorem commandAt_rdpair (ho : s.opl = 0x3#4) :
    CommandAt s ↔ s.stage = 0 ∧
      ((s.phase = .idle ∧ Quiet s) ∨
       (InTransaction .rdpair s ∧ s.ra = s.bl ∧ s.ia = s.hl)) := by
  simp [CommandAt, ho]

theorem commandAt_ldcal (ho : s.opl = 0x4#4) :
    CommandAt s ↔ (s.stage = 0 ∧ s.idx = 0 ∧ s.phase = .idle ∧ Quiet s) ∨
      (s.stage = 1 ∧ s.idx.toNat ≤ 10 ∧ InTransaction .rdpair s ∧
        s.ra = calAddrHi s.cfg s.idx.toNat ∧ s.ia = calPair s.cfg s.idx.toNat) := by
  simp [CommandAt, ho]

theorem commandAt_compute (ho : s.opl = 0x5#4 ∨ s.opl = 0x6#4) :
    CommandAt s ↔ s.stage = 0 ∧ Quiet s ∧ (s.phase = .idle ∨ s.phase = .compute) := by
  rcases ho with ho | ho <;> simp [CommandAt, ho]

theorem commandAt_rdtemp (ho : s.opl = 0x7#4) :
    CommandAt s ↔ CommandAt.CompositeAt s.cfg.tempCtrl .temp s := by
  simp [CommandAt, ho]

theorem commandAt_rdpres (ho : s.opl = 0x8#4) :
    CommandAt s ↔ CommandAt.CompositeAt s.cfg.pressCtrl .press s := by
  simp [CommandAt, ho]

/-- Only the eight commands of the opcode table stand anywhere. -/
theorem commandAt_op (h : CommandAt s) :
    s.opl = 0x1#4 ∨ s.opl = 0x2#4 ∨ s.opl = 0x3#4 ∨ s.opl = 0x4#4 ∨
      (s.opl = 0x5#4 ∨ s.opl = 0x6#4) ∨ s.opl = 0x7#4 ∨ s.opl = 0x8#4 := by
  unfold CommandAt at h
  split at h <;> simp_all [BitVec.toNat_eq]

/-- A legal command that has done nothing yet stands at its beginning (R53). -/
theorem commandAt_of_quiet (hl : 1 ≤ s.opl.toNat ∧ s.opl.toNat ≤ 8) (hq : Quiet s)
    (hp : s.phase = .idle) (h0 : s.stage = 0) (hi : s.idx = 0) : CommandAt s := by
  unfold CommandAt
  split
  · exact ⟨h0, hq.noFailure, hq.noTransaction, hq.noWait, .inl ⟨hp, hq⟩⟩
  · exact ⟨h0, .inl ⟨hp, hq⟩⟩
  · exact ⟨h0, .inl ⟨hp, hq⟩⟩
  · exact .inl ⟨h0, hi, hp, hq⟩
  · exact ⟨h0, hq, .inl hp⟩
  · exact ⟨h0, hq, .inl hp⟩
  · exact .inl ⟨h0, hp, hq⟩
  · exact .inl ⟨h0, hp, hq⟩
  · simp only [imp_false] at *
    omega

/-! ## Moves of the other agents -/

/-- From s to t only REJECT, the two ports, the history, the host's record and the coming moves have
changed; no wait and no exchange has begun, and an exchange under way still is. -/
structure AgentsOnly (s t : State) : Prop where
  rest : ∃ rj v q a es hr ms, t = { s with
    status := { s.status with reject := rj }, conv := ⟨v, s.conv.mode⟩
    busReq := q, busAns := a, events := es, hostReads := hr, moves := ms }
  noWait : s.conv.valid = false → t.conv.valid = false
  noExchange : s.busReq = none → s.busAns = none → t.busReq = none ∧ t.busAns = none
  exchange : ∀ r, Exchanging r s → Exchanging r t

namespace AgentsOnly

variable (k : AgentsOnly s t)
include k

theorem opl : t.opl = s.opl := by
  obtain ⟨_, _, _, _, _, _, _, rfl⟩ := k.rest
  rfl

theorem quiet (h : Quiet s) : Quiet t := by
  obtain ⟨hq, ha⟩ := k.noExchange h.noRequest h.noAnswer
  have hw := k.noWait h.noWait
  obtain ⟨_, _, _, _, _, _, _, rfl⟩ := k.rest
  exact ⟨hq, ha, h.noFailure, h.noTransaction, hw⟩

theorem inTransaction {x : Shape} (h : InTransaction x s) : InTransaction x t := by
  obtain ⟨r, hr, hx⟩ := h.exchange
  have hx' := k.exchange r hx
  have hw := k.noWait h.noWait
  obtain ⟨_, _, _, _, _, _, _, rfl⟩ := k.rest
  exact ⟨h.shape, ⟨r, hr, hx'⟩, h.failure, hw⟩

theorem loading (h : Loading s) : Loading t := by
  obtain ⟨_, _, _, _, _, _, _, rfl⟩ := k.rest
  exact { h with }

theorem compositeAt {ctrl : Byte} {mode : ConvMode} (h : CommandAt.CompositeAt ctrl mode s) :
    CommandAt.CompositeAt ctrl mode t := by
  have hq := k.quiet
  have hx := @k.inTransaction
  have hn := k.noExchange
  obtain ⟨_, _, _, _, _, _, _, rfl⟩ := k.rest
  rcases h with ⟨h0, hp, q⟩ | ⟨h1, h⟩ | ⟨h2, hp, hm, ht, hs, hr, ha, hf⟩ | ⟨h3, h⟩ | ⟨h4, hp, q⟩
  · exact .inl ⟨h0, hp, hq q⟩
  · exact .inr (.inl ⟨h1, h.imp (And.imp_right hq) (And.imp_left hx)⟩)
  · obtain ⟨hr', ha'⟩ := hn hr ha
    exact .inr (.inr (.inl ⟨h2, hp, hm, ht, hs, hr', ha', hf⟩))
  · exact .inr (.inr (.inr (.inl ⟨h3, h.imp (And.imp_right hq) (And.imp_left hx)⟩)))
  · exact .inr (.inr (.inr (.inr ⟨h4, hp, hq q⟩)))

theorem commandAt (h : CommandAt s) : CommandAt t := by
  have hq := k.quiet
  have hx := @k.inTransaction
  have hc := @k.compositeAt
  have he := k.exchange
  have hw := k.noWait
  have e := k.opl
  obtain ⟨_, _, _, _, _, _, _, rfl⟩ := k.rest
  rcases commandAt_op h with ho | ho | ho | ho | ho | ho | ho
  · obtain ⟨h0, hf, hs, hv, h⟩ := (commandAt_init ho).1 h
    exact (commandAt_init (e.trans ho)).2
      ⟨h0, hf, hs, hw hv, h.imp (And.imp_right hq) (And.imp_right (he _))⟩
  · obtain ⟨h0, h⟩ := (commandAt_trig ho).1 h
    exact (commandAt_trig (e.trans ho)).2 ⟨h0, h.imp (And.imp_right hq) (And.imp_left hx)⟩
  · obtain ⟨h0, h⟩ := (commandAt_rdpair ho).1 h
    exact (commandAt_rdpair (e.trans ho)).2 ⟨h0, h.imp (And.imp_right hq) (And.imp_left hx)⟩
  · refine (commandAt_ldcal (e.trans ho)).2 ?_
    rcases (commandAt_ldcal ho).1 h with ⟨h0, hi, hp, q⟩ | ⟨h1, hi, ht, hops⟩
    · exact .inl ⟨h0, hi, hp, hq q⟩
    · exact .inr ⟨h1, hi, hx ht, hops⟩
  · obtain ⟨h0, q, hp⟩ := (commandAt_compute ho).1 h
    exact (commandAt_compute (ho.imp e.trans e.trans)).2 ⟨h0, hq q, hp⟩
  · exact (commandAt_rdtemp (e.trans ho)).2 (hc ((commandAt_rdtemp ho).1 h))
  · exact (commandAt_rdpres (e.trans ho)).2 (hc ((commandAt_rdpres ho).1 h))

theorem inv (h : Inv s) : Inv t := by
  have hq := k.quiet
  have hl := k.loading
  have hc := k.commandAt
  obtain ⟨_, _, _, _, _, _, _, rfl⟩ := k.rest
  exact
    { h with
      idleQuiet := fun hb => (h.idleQuiet hb).imp_left hq
      running := fun hb => hc (h.running hb)
      loading := fun hb ho => hl (h.loading hb ho) }

end AgentsOnly

theorem agentsOnly_moves (s : State) (ms : List Move) : AgentsOnly s { s with moves := ms } :=
  ⟨⟨_, _, _, _, _, _, _, rfl⟩, id, And.intro, fun _ => id⟩

theorem agentsOnly_hostReads (s : State) (hr : List (Byte × Word)) :
    AgentsOnly s { s with hostReads := hr } :=
  ⟨⟨_, _, _, _, _, _, _, rfl⟩, id, And.intro, fun _ => id⟩

theorem agentsOnly_reject (v : Word) (s : State) : AgentsOnly s (reject v s) :=
  ⟨⟨_, _, _, _, _, _, _, rfl⟩, id, And.intro, fun _ => id⟩

theorem agentsOnly_busAnswer (b : Byte) (s : State) : AgentsOnly s (busAnswer b s) := by
  cases hr : s.busReq with
  | none =>
    rw [busAnswer_none b hr]
    exact agentsOnly_moves s s.moves
  | some r =>
    refine ⟨?_, ?_, by simp [hr], fun q hx => exchanging_answer b hx hr⟩
    all_goals rw [busAnswer_some b hr]
    exacts [⟨_, _, _, _, _, _, _, rfl⟩, id]

theorem agentsOnly_timerAnswer (s : State) : AgentsOnly s (timerAnswer s) := by
  unfold timerAnswer
  split
  · exact ⟨⟨_, _, _, _, _, _, _, rfl⟩, fun _ => rfl, And.intro, fun _ => id⟩
  · exact agentsOnly_moves s s.moves

end Sys2Proof.Machine
end

section
/-! PROOF. The invariant at a command's completion (R54, R135), at its acceptance (R53) and across a step
that goes on with it. -/

namespace Sys2Proof.Machine

variable {s t : State}

/-! ## Completion -/

/-- What the invariant asks of a state from which a command completes, but for the error record. -/
structure Completable (s : State) : Prop where
  lastOp : s.status.lastOp = s.opl
  validTable : s.status.calValid = true →
    s.calstat = ⟨0, 0⟩ ∧ ∀ i : Fin 11, badWord s.cal[i] = false
  b5OfTable : s.status.b5Valid = true → s.status.calValid = true
  noRequest : s.busReq = none
  noWait : s.conv.valid = false

/-- A completable state whose record holds no failed transaction, as acceptance leaves it (R53). -/
structure ErrorFree (s : State) : Prop extends Completable s where
  noFailXact : s.status.failXact = .none
  noBusStatus : s.status.busStatus = 0

theorem Inv.errorFree (h : Inv s) (hb : s.status.busy = true) (hh : held s = false) :
    ErrorFree s := by
  have he : s.status.err ≠ .busPhase := by simp [h.runningClear hb]
  obtain ⟨hn, hw⟩ := held_eq_false.1 hh
  exact
    { h with
      noFailXact := by simpa using mt h.failXactFits.2 he
      noBusStatus := h.busStatusFits he
      noRequest := hn
      noWait := hw }

theorem Completable.inv_complete {c : ErrCode} {p : Phase} (h : Completable s)
    (hx : c = .busPhase ↔ s.status.failXact ≠ .none)
    (hs : c ≠ .busPhase → s.status.busStatus = 0) (hp : failPhaseFits c p = true) :
    Inv (complete c p s) where
  busyNotDone := by simp
  idlePhase := by simp
  failXactFits := hx
  busStatusFits := hs
  failPhaseLegal := hp
  runningClear := by simp
  idleQuiet := fun _ => ⟨⟨h.noRequest, rfl, rfl, rfl, h.noWait⟩, rfl⟩
  lastOp := h.lastOp
  running := by simp
  validTable := h.validTable
  b5OfTable := h.b5OfTable
  needsMet := by simp
  loading := by simp

/-- A command that completes without a bus failure leaves the record free of one. -/
theorem ErrorFree.inv_complete {c : ErrCode} {p : Phase} (h : ErrorFree s) (hc : c ≠ .busPhase)
    (hp : failPhaseFits c p = true) : Inv (complete c p s) :=
  h.toCompletable.inv_complete (by simp [hc, h.noFailXact]) (fun _ => h.noBusStatus) hp

/-- R86 and R135: a bus failure is recorded with its status byte, phase and shape. -/
theorem Completable.inv_raise_busPhase {f : XFail} (h : Completable s)
    (hp : f.phase.checked = true) (hx : f.shape ≠ .none) : Inv (raiseError (.busPhase f) s) :=
  Completable.inv_complete { h with } (by simp [hx]) (by simp) hp

/-! ## Acceptance -/

theorem errorFree_accepted (v : Word) (h : Inv s) (hb : s.status.busy = false) :
    ErrorFree (accepted v s) where
  lastOp := rfl
  validTable := h.validTable
  b5OfTable := h.b5OfTable
  noRequest := (h.idleQuiet hb).1.noRequest
  noWait := (h.idleQuiet hb).1.noWait
  noFailXact := rfl
  noBusStatus := rfl

theorem ErrorFree.clearCalibration (h : ErrorFree s) : ErrorFree (clearCalibration s) :=
  { h with validTable := by simp, b5OfTable := by simp }

/-- R107: an LDCAL begins with nothing loaded and no read failed. -/
theorem loading_setBusy (s : State) : Loading (setBusy (clearCalibration s)) where
  notValid := rfl
  noB5 := rfl
  failFlag := by simp
  failKept := by simp
  ahead := by simp
  done := by simp

theorem inv_setBusy (h : ErrorFree s) (hd : s.status.done = false)
    (he : s.status.err = .none) (hf : s.status.failPhase = .idle) (hat : CommandAt (setBusy s))
    (hneeds : (needsCal s.opl = true → s.status.calValid = true) ∧
      (needsB5 s.opl = true → s.status.b5Valid = true))
    (hload : s.opl = 0x4#4 → Loading (setBusy s)) : Inv (setBusy s) where
  busyNotDone := fun _ => hd
  idlePhase := by simp
  failXactFits := by simp [he, h.noFailXact]
  busStatusFits := fun _ => h.noBusStatus
  failPhaseLegal := by simp [he, hf, failPhaseFits]
  runningClear := fun _ => he
  idleQuiet := by simp
  lastOp := h.lastOp
  running := fun _ => hat
  validTable := h.validTable
  b5OfTable := h.b5OfTable
  needsMet := fun _ => hneeds
  loading := fun _ => hload

theorem inv_startCommand (v : Word) (h : Inv s) (hb : s.status.busy = false)
    (hl : legal v = true) (hc : needsCal (opField v) = true → s.status.calValid = true)
    (h5 : needsB5 (opField v) = true → s.status.b5Valid = true) :
    Inv (startCommand (accepted v s)) := by
  have hu := errorFree_accepted v h hb
  obtain ⟨hq, -⟩ := h.idleQuiet hb
  have hp := h.idlePhase hb
  simp only [legal, Bool.and_eq_true, decide_eq_true_eq] at hl
  unfold startCommand
  split
  case isTrue ho =>
    refine inv_setBusy hu.clearCalibration rfl rfl rfl ?_ ?_ (fun _ => loading_setBusy _)
    · exact commandAt_of_quiet hl.1 { hq with } hp rfl rfl
    · simp_all [needsCal, needsB5]
  case isFalse ho =>
    refine inv_setBusy hu rfl rfl rfl ?_ ⟨hc, h5⟩ (fun h => absurd h ho)
    exact commandAt_of_quiet hl.1 { hq with } hp rfl rfl

/-- R53: accepting any word in an idle block, with each of its four ends. -/
theorem inv_accept (v : Word) (h : Inv s) (hb : s.status.busy = false) : Inv (accept v s) := by
  have hu := errorFree_accepted v h hb
  rcases accept_cases v s with ⟨_, e⟩ | ⟨_, _, _, e⟩ | ⟨_, _, _, e⟩ | ⟨hl, hc, h5, e⟩ <;> rw [e]
  · exact hu.inv_complete (by decide) rfl
  · exact hu.inv_complete (by decide) rfl
  · exact hu.inv_complete (by decide) rfl
  · exact inv_startCommand v h hb hl hc h5

/-! ## Going on with a command -/

theorem inv_of_running (h : Inv s) (hb : s.status.busy = true) (hst : t.status = s.status)
    (hop : t.opl = s.opl)
    (htab : s.status.calValid = true → t.calstat = s.calstat ∧ t.cal = s.cal)
    (hat : CommandAt t) (hload : s.opl = 0x4#4 → Loading t) : Inv t := by
  have hidle : t.status.busy ≠ false := by simp [hst, hb]
  exact
    { busyNotDone := hst ▸ h.busyNotDone
      idlePhase := fun hf => absurd hf hidle
      failXactFits := hst ▸ h.failXactFits
      busStatusFits := hst ▸ h.busStatusFits
      failPhaseLegal := hst ▸ h.failPhaseLegal
      runningClear := hst ▸ h.runningClear
      idleQuiet := fun hf => absurd hf hidle
      lastOp := by rw [hst, hop, h.lastOp]
      running := fun _ => hat
      validTable := fun hv => by
        obtain ⟨hcs, hct⟩ := htab (hst ▸ hv)
        rw [hcs, hct]
        exact h.validTable (hst ▸ hv)
      b5OfTable := hst ▸ h.b5OfTable
      needsMet := by rw [hst, hop]; exact h.needsMet
      loading := fun _ ho => hload (hop ▸ ho) }

/-- A step from s to t leaves STATUS, the latched OP, the table, CALSTAT and the configuration. -/
structure SameRecord (s t : State) : Prop where
  status : t.status = s.status
  opl : t.opl = s.opl
  calstat : t.calstat = s.calstat
  cal : t.cal = s.cal
  cfg : t.cfg = s.cfg

/-- A command other than LDCAL goes on, from one of its places to another. -/
theorem inv_of_sameRecord (h : Inv s) (hb : s.status.busy = true) (ho : s.opl ≠ 0x4#4)
    (k : SameRecord s t) (hat : t.opl = s.opl → CommandAt t) : Inv t :=
  inv_of_running h hb k.status k.opl (fun _ => ⟨k.calstat, k.cal⟩) (hat k.opl)
    (fun h => absurd h ho)

/-- An LDCAL goes on; it may have written the table, which is not valid while it runs (R107). -/
theorem inv_of_loading (h : Inv s) (hb : s.status.busy = true) (hst : t.status = s.status)
    (hop : t.opl = s.opl) (hl : Loading t) (hat : t.opl = s.opl → CommandAt t) : Inv t := by
  have hv : s.status.calValid = false := hst ▸ hl.notValid
  exact inv_of_running h hb hst hop (by simp [hv]) (hat hop) (fun _ => hl)

/-! ## The end of a transaction -/

theorem ErrorFree.endTransaction (h : ErrorFree s) :
    ErrorFree { s with xact := .none, xfail := none } := { h with }

/-- A failure kept until the end of its transaction can be recorded; a success goes on. -/
theorem inv_onOutcome {x : Shape} {ok : State → State} (hx : x ≠ .none) (h : ErrorFree s)
    (hi : InTransaction x s) (hok : Inv (ok { s with xact := .none, xfail := none })) :
    Inv (onOutcome ok s.xfail { s with xact := .none, xfail := none }) := by
  cases hf : s.xfail with
  | none => simpa [hf] using hok
  | some f =>
    obtain ⟨-, rfl, hp⟩ := hi.failure f hf
    exact h.endTransaction.inv_raise_busPhase hp hx

end Sys2Proof.Machine
end

section
/-! PROOF. From a state that meets the invariant, the step of a running command answers a next state that
meets it: INIT, TRIG and RDPAIR. -/

namespace Sys2Proof.Machine

variable {s : State}

theorem initBody_idle (hp : s.phase = .idle) :
    initBody s = .next (enterPhase .initBus (.init s.bl (loByte s.hl)) s) := by
  simp [initBody, hp]

theorem initBody_answered {c p : Byte} (hp : s.phase = .initBus)
    (ha : s.busAns = some (.done (.init c p))) : initBody s = .next (complete .none .idle s) := by
  simp [initBody, hp, ha]

theorem initBody_inv (h : Inv s) (hb : s.status.busy = true) (hh : held s = false)
    (ho : s.opl = 0x1#4) : ∃ t, initBody s = .next t ∧ Inv t := by
  obtain ⟨hn, hw⟩ := held_eq_false.1 hh
  obtain ⟨h0, hf, hs, -, ⟨hp, -⟩ | ⟨hp, hx⟩⟩ := (commandAt_init ho).1 (h.running hb)
  · refine ⟨_, initBody_idle hp, ?_⟩
    refine inv_of_sameRecord h hb (by simp [ho]) ⟨rfl, rfl, rfl, rfl, rfl⟩ fun e => ?_
    exact (commandAt_init (e.trans ho)).2 ⟨h0, hf, hs, hw, .inr ⟨rfl, exchanging_post _ _⟩⟩
  · obtain ⟨b, ha⟩ := hx.answered hn
    exact ⟨_, initBody_answered hp ha, (h.errorFree hb hh).inv_complete (by decide) rfl⟩

theorem trigBody_inv (h : Inv s) (hb : s.status.busy = true) (hh : held s = false)
    (ho : s.opl = 0x2#4) : ∃ t, trigBody s = .next t ∧ Inv t := by
  obtain ⟨hn, hw⟩ := held_eq_false.1 hh
  have hu := (h.errorFree hb hh).endTransaction
  unfold trigBody
  obtain ⟨h0, ⟨-, hq⟩ | ⟨hi, hbl⟩⟩ := (commandAt_trig ho).1 (h.running hb)
  · refine ⟨_, if_pos hq.noTransaction, ?_⟩
    refine inv_of_sameRecord h hb (by simp [ho]) ⟨rfl, rfl, rfl, rfl, rfl⟩ fun e => ?_
    exact (commandAt_trig (e.trans ho)).2 ⟨h0, .inr ⟨inTransaction_startTrig _ hw, rfl⟩⟩
  · rw [if_neg (by simp [hi.shape])]
    rcases trig_with hi hn (onOutcome (complete .none .idle)) with
      ⟨u, p, r, xf, -, hs, hi', rfl⟩ | ⟨hs, -⟩
    · refine ⟨_, hs, inv_of_sameRecord h hb (by simp [ho]) ⟨rfl, rfl, rfl, rfl, rfl⟩ fun e => ?_⟩
      exact (commandAt_trig (e.trans ho)).2 ⟨h0, .inr ⟨hi', hbl⟩⟩
    · refine ⟨_, hs, inv_onOutcome (by decide) (h.errorFree hb hh) hi ?_⟩
      exact hu.inv_complete (by decide) rfl

theorem rdpairBody_inv (h : Inv s) (hb : s.status.busy = true) (hh : held s = false)
    (ho : s.opl = 0x3#4) : ∃ t, rdpairBody s = .next t ∧ Inv t := by
  obtain ⟨hn, hw⟩ := held_eq_false.1 hh
  have hu := (h.errorFree hb hh).endTransaction
  unfold rdpairBody
  obtain ⟨h0, ⟨-, hq⟩ | ⟨hi, hops⟩⟩ := (commandAt_rdpair ho).1 (h.running hb)
  · refine ⟨_, if_pos hq.noTransaction, ?_⟩
    refine inv_of_sameRecord h hb (by simp [ho]) ⟨rfl, rfl, rfl, rfl, rfl⟩ fun e => ?_
    exact (commandAt_rdpair (e.trans ho)).2
      ⟨h0, .inr ⟨inTransaction_startRead _ _ hw, rfl, rfl⟩⟩
  · rw [if_neg (by simp [hi.shape])]
    rcases read_with hi hn (onOutcome rdpairDone) with
      ⟨u, p, r, xf, _, _, -, hs, hi', rfl⟩ | ⟨hs, -⟩
    · refine ⟨_, hs, inv_of_sameRecord h hb (by simp [ho]) ⟨rfl, rfl, rfl, rfl, rfl⟩ fun e => ?_⟩
      exact (commandAt_rdpair (e.trans ho)).2 ⟨h0, .inr ⟨hi', hops⟩⟩
    · refine ⟨_, hs, inv_onOutcome (by decide) (h.errorFree hb hh) hi ?_⟩
      exact ErrorFree.inv_complete { hu with } (by decide) rfl

end Sys2Proof.Machine
end

section
/-! PROOF. The same for LDCAL (R107, R108): each outcome of a read is progress of the load by one entry, and
after the eleventh the table is valid exactly when nothing failed. -/

namespace Sys2Proof.Machine

variable {s : State}

theorem setBit_get_same (m : BitVec 11) {i : BitVec 4} {j : Fin 11} (h : i.toNat = j.val) :
    (setBit m i).getLsbD j.val = true := by
  rw [setBit_get, decide_eq_true h, Bool.or_true]

theorem setBit_get_ne (m : BitVec 11) {i : BitVec 4} {j : Fin 11} (h : i.toNat ≠ j.val) :
    (setBit m i).getLsbD j.val = m.getLsbD j.val := by
  rw [setBit_get, decide_eq_false h, Bool.or_false]

/-- R107: a successful read puts its word into the table, and into BAD_VALUE if it shows a failed read. -/
theorem loading_calReadOk (h : Loading s) (hi : (s.idx + 1).toNat = s.idx.toNat + 1) :
    Loading { calReadOk s with idx := s.idx + 1 } := by
  refine ⟨h.notValid, h.noB5, h.failFlag, h.failKept, fun j hj => ?_, fun j hj hr => ?_⟩ <;>
    simp only [hi] at hj
  · obtain ⟨hr, hb⟩ := h.ahead j (by omega)
    have hne : s.idx.toNat ≠ j.val := by omega
    refine ⟨hr, ?_⟩
    simp only [calReadOk_calstat]
    split
    · exact (setBit_get_ne _ hne).trans hb
    · exact hb
  · simp only [calReadOk_calstat, calReadOk_cal, setCal_get] at hr ⊢
    by_cases hj' : s.idx.toNat = j.val
    · have hb := (h.ahead j hj'.le).2
      rw [if_pos hj']
      split
      case isTrue hw => rw [setBit_get_same _ hj', hw]
      case isFalse hw => rw [hb]; simpa using hw
    · rw [if_neg hj', ← h.done j (by omega) hr]
      split
      · exact setBit_get_ne _ hj'
      · rfl

theorem keepFirstFailure_eq (f : XFail) (s : State) :
    keepFirstFailure f s = { s with
      ffail := true
      ffs := if s.ffail then s.ffs else f.status
      ffp := if s.ffail then s.ffp else f.phase
      ffx := if s.ffail then s.ffx else f.shape } := by
  cases s
  unfold keepFirstFailure
  split <;> simp_all

/-- R107 and R108: a failed read sets its bit of READ_FAIL, and the first failure is kept. -/
theorem loading_calReadFail {f : XFail} (h : Loading s) (hi : s.idx.toNat ≤ 10)
    (hi' : (s.idx + 1).toNat = s.idx.toNat + 1) (hx : f.shape = .rdpair)
    (hp : f.phase.checked = true) : Loading { calReadFail f s with idx := s.idx + 1 } := by
  rw [calReadFail, keepFirstFailure_eq]
  refine ⟨h.notValid, h.noB5, ?_, fun _ => ?_, fun j hj => ?_, fun j hj hr => ?_⟩
  · simpa using setBit_ne _ _ hi
  · cases hf : s.ffail with
    | false => simp [hf, hx, hp]
    | true => simpa [hf] using h.failKept hf
  · simp only [hi'] at hj
    obtain ⟨hr, hb⟩ := h.ahead j (by omega)
    have hne : s.idx.toNat ≠ j.val := by omega
    exact ⟨(setBit_get_ne _ hne).trans hr, hb⟩
  · simp only [hi', emit_calstat, markReadFail_calstat, setBit_get, Bool.or_eq_false_iff,
      decide_eq_false_iff_not] at hj hr
    obtain ⟨hr, hne⟩ := hr
    exact h.done j (by omega) hr

/-- The outcome of a read changes the table, CALSTAT, the first failure kept and the history alone. -/
theorem calReadOutcome_rest (xf : Option XFail) (s : State) : ∃ cal cs ff st p x es,
    calReadOutcome xf s = { s with
      cal := cal, calstat := cs, ffail := ff, ffs := st, ffp := p, ffx := x, events := es } := by
  cases xf with
  | none => exact ⟨_, _, _, _, _, _, _, rfl⟩
  | some f =>
    exact ⟨_, _, _, _, _, _, _, by rw [calReadOutcome, calReadFail, keepFirstFailure_eq]; rfl⟩

theorem inv_ldcalFinish (h : ErrorFree s) (hl : Loading { s with idx := 11 }) :
    Inv (ldcalFinish s) := by
  unfold ldcalFinish
  split
  case isTrue hf =>
    obtain ⟨hx, hp⟩ := hl.failKept hf
    exact h.inv_raise_busPhase hp (by simp [show s.ffx = .rdpair from hx])
  case isFalse hf =>
    have hr : s.calstat.readFail = 0 := not_not.1 (mt hl.failFlag.2 hf)
    split
    case isTrue => exact h.inv_complete (c := .badCal) (by decide) rfl
    case isFalse hb =>
      have hb : s.calstat.badValue = 0 := not_not.1 hb
      have hcs : CalStat.mk s.calstat.readFail s.calstat.badValue = ⟨0, 0⟩ := by rw [hr, hb]
      have hct (i : Fin 11) : badWord s.cal[i] = false := by
        simpa [hb] using (hl.done i (by simp) (by simp [hr])).symm
      exact ErrorFree.inv_complete
        { h with validTable := fun _ => ⟨hcs, hct⟩, b5OfTable := fun _ => rfl } (by decide) rfl

/-- R107: the end of read idx is followed by the next read's first request, or ends the command. -/
theorem inv_calReadEnd (h : Inv s) (hb : s.status.busy = true) (hh : held s = false)
    (ho : s.opl = 0x4#4) (hi : s.idx.toNat ≤ 10) (ht : InTransaction .rdpair s) :
    Inv (calReadEnd s.xfail { s with xact := .none, xfail := none }) := by
  have hidx : (s.idx + 1).toNat = s.idx.toNat + 1 := by
    rw [BitVec.toNat_add_of_lt] <;> simp
    omega
  have hload := h.loading hb ho
  have hend : Loading { s with xact := .none, xfail := none } := { hload with }
  have hnext : Loading { calReadOutcome s.xfail { s with xact := .none, xfail := none } with
      idx := s.idx + 1 } := by
    cases hf : s.xfail with
    | none => exact loading_calReadOk hend hidx
    | some f =>
      obtain ⟨-, hx, hp⟩ := ht.failure f hf
      exact loading_calReadFail hend hi hidx hx hp
  unfold calReadEnd
  obtain ⟨cal, cs, ff, st, p, x, es, e⟩ :=
    calReadOutcome_rest s.xfail { s with xact := .none, xfail := none }
  rw [e] at hnext ⊢
  unfold calReadNext
  split
  case isTrue hlt =>
    have hle : (s.idx + 1).toNat ≤ 10 := hidx ▸ hlt
    refine inv_of_loading h hb rfl rfl { hnext with } fun e => ?_
    exact (commandAt_ldcal (e.trans ho)).2
      (.inr ⟨rfl, hle, inTransaction_startRead _ _ ht.noWait, rfl, rfl⟩)
  case isFalse hlt =>
    have hlt : ¬ s.idx.toNat < 10 := hlt
    have h11 : s.idx + 1 = 11 := BitVec.eq_of_toNat_eq (by simp; omega)
    rw [h11] at hnext
    exact inv_ldcalFinish { h.errorFree hb hh with validTable := by simp [hload.notValid] } hnext

theorem ldcalBody_inv (h : Inv s) (hb : s.status.busy = true) (hh : held s = false)
    (ho : s.opl = 0x4#4) : ∃ t, ldcalBody s = .next t ∧ Inv t := by
  obtain ⟨hn, hw⟩ := held_eq_false.1 hh
  have hload := h.loading hb ho
  unfold ldcalBody
  obtain ⟨-, hi, -, hq⟩ | ⟨h1, hi, ht, hops⟩ := (commandAt_ldcal ho).1 (h.running hb)
  · have hload' : Loading (startCalRead 0 s) :=
      { hload with ahead := hi ▸ hload.ahead, done := hi ▸ hload.done }
    refine ⟨_, if_pos hq.noTransaction, inv_of_loading h hb rfl rfl hload' fun e => ?_⟩
    exact (commandAt_ldcal (e.trans ho)).2
      (.inr ⟨rfl, by simp, inTransaction_startRead _ _ hw, rfl, rfl⟩)
  · rw [if_neg (by simp [ht.shape])]
    rcases read_with ht hn calReadEnd with ⟨u, p, r, xf, _, _, -, hs, ht', rfl⟩ | ⟨hs, -⟩
    · refine ⟨_, hs, inv_of_loading h hb rfl rfl { hload with } fun e => ?_⟩
      exact (commandAt_ldcal (e.trans ho)).2 (.inr ⟨h1, hi, ht', hops⟩)
    · exact ⟨_, hs, inv_calReadEnd h hb hh ho hi ht⟩

end Sys2Proof.Machine
end

section
/-! PROOF. The same for CTEMP and CPRES, and for RDTEMP and RDPRES stage by stage (R125, R126). -/

namespace Sys2Proof.Machine

variable {s : State}

/-- R114 and R115: a temperature computation makes b5 valid, and it runs with a valid table only. -/
theorem inv_computeTemp (raw : Half) (h : ErrorFree s) (hv : s.status.calValid = true) :
    Inv (computeTemp raw s) := by
  unfold computeTemp
  split
  · exact h.inv_complete (c := .divZero) (by decide) rfl
  · exact ErrorFree.inv_complete { h with b5OfTable := fun _ => hv } (by decide) rfl

theorem inv_computePress (raw : Half) (h : ErrorFree s) : Inv (computePress raw s) := by
  unfold computePress
  split
  · exact h.inv_complete (c := .divZero) (by decide) rfl
  · exact ErrorFree.inv_complete { h with } (by decide) rfl

theorem computeBody_inv {compute : Half → State → State} (h : Inv s) (hb : s.status.busy = true)
    (ho : s.opl = 0x5#4 ∨ s.opl = 0x6#4) (hc : Inv (compute s.hl s)) :
    ∃ t, computeBody compute s = .next t ∧ Inv t := by
  obtain ⟨h0, hq, hp | hp⟩ := (commandAt_compute ho).1 (h.running hb)
  · have hne : s.opl ≠ 0x4#4 := by rcases ho with ho | ho <;> simp [ho]
    refine ⟨enterCompute s, by simp [computeBody, hp], ?_⟩
    refine inv_of_sameRecord h hb hne ⟨rfl, rfl, rfl, rfl, rfl⟩ fun e => ?_
    exact (commandAt_compute (ho.imp e.trans e.trans)).2
      ⟨h0, { hq with noAnswer := rfl }, .inr rfl⟩
  · exact ⟨compute s.hl s, by simp [computeBody, hp], hc⟩

/-- One step of a composite read leads from its stage to the same or the next one (`hnext`), or completes
the command: with a bus failure, or by the compute step (`hc`). -/
theorem compositeBody_inv {ctrl : Byte} {mode : ConvMode} {compute : Half → State → State}
    (h : Inv s) (hb : s.status.busy = true) (hh : held s = false)
    (hat : CommandAt.CompositeAt ctrl mode s) (hc : Inv (compute s.rawl s))
    (hnext : ∀ t, SameRecord s t → CommandAt.CompositeAt ctrl mode t → Inv t) :
    ∃ t, compositeBody ctrl mode compute s = .next t ∧ Inv t := by
  obtain ⟨hn, hw⟩ := held_eq_false.1 hh
  have hu := h.errorFree hb hh
  rcases hat with ⟨h0, hp, hq⟩ | ⟨h1, ⟨-, hq⟩ | ⟨hi, htb⟩⟩ | ⟨h2, hp, -, -, hs, -, ha, hf⟩ |
    ⟨h3, ⟨-, hq⟩ | ⟨hi, hops⟩⟩ | ⟨h4, -, -⟩
  · refine ⟨{ s with stage := 1 }, by simp [compositeBody, h0], ?_⟩
    refine hnext _ ⟨rfl, rfl, rfl, rfl, rfl⟩ ?_
    exact .inr (.inl ⟨rfl, .inl ⟨hp, { hq with }⟩⟩)
  · refine ⟨startTrig ctrl s, by simp [compositeBody, h1, hq.noTransaction], ?_⟩
    refine hnext _ ⟨rfl, rfl, rfl, rfl, rfl⟩ ?_
    exact .inr (.inl ⟨h1, .inr ⟨inTransaction_startTrig _ hw, rfl⟩⟩)
  · simp only [compositeBody, h1, hi.shape]
    rcases trig_with hi hn (onOutcome (fun s => convRequest mode { s with stage := 2 })) with
      ⟨u, p, r, xf, -, hs, hi', rfl⟩ | ⟨hs, -⟩
    · refine ⟨_, hs, hnext _ ⟨rfl, rfl, rfl, rfl, rfl⟩ ?_⟩
      exact .inr (.inl ⟨h1, .inr ⟨hi', htb⟩⟩)
    · refine ⟨_, hs, inv_onOutcome (by decide) hu hi (hnext _ ⟨rfl, rfl, rfl, rfl, rfl⟩ ?_)⟩
      exact .inr (.inr (.inl ⟨rfl, rfl, rfl, htb, rfl, hn, rfl, rfl⟩))
  · refine ⟨{ s with stage := 3 }, by simp [compositeBody, h2], ?_⟩
    refine hnext _ ⟨rfl, rfl, rfl, rfl, rfl⟩ ?_
    exact .inr (.inr (.inr (.inl ⟨rfl, .inl ⟨hp, hn, ha, hf, hs, hw⟩⟩)))
  · refine ⟨startRead s.cfg.resMsb (resPair s.cfg) s,
      by simp [compositeBody, h3, hq.noTransaction], ?_⟩
    refine hnext _ ⟨rfl, rfl, rfl, rfl, rfl⟩ ?_
    exact .inr (.inr (.inr (.inl ⟨h3, .inr ⟨inTransaction_startRead _ _ hw, rfl, rfl⟩⟩)))
  · simp only [compositeBody, h3, hi.shape]
    rcases read_with hi hn (onOutcome resultReadDone) with
      ⟨u, p, r, xf, _, _, -, hs, hi', rfl⟩ | ⟨hs, -⟩
    · refine ⟨_, hs, hnext _ ⟨rfl, rfl, rfl, rfl, rfl⟩ ?_⟩
      exact .inr (.inr (.inr (.inl ⟨h3, .inr ⟨hi', hops⟩⟩)))
    · refine ⟨_, hs, inv_onOutcome (by decide) hu hi (hnext _ ⟨rfl, rfl, rfl, rfl, rfl⟩ ?_)⟩
      exact .inr (.inr (.inr (.inr ⟨rfl, rfl, hn, rfl, rfl, rfl, hw⟩)))
  · exact ⟨compute s.rawl s, by simp [compositeBody, h4], hc⟩

end Sys2Proof.Machine
end

section
/-! PROOF. Every command answers a next state that meets the invariant, every step keeps it, and every
reachable state meets it. -/

namespace Sys2Proof.Machine

variable {s t : State}

/-! ## Commands -/

theorem op_of_decode {v : Word} {i : Instr} (h : decode v = .ok i) : opField v = i.op := by
  unfold decode at h
  split at h
  · cases h
  · split at h <;> cases h
    all_goals exact BitVec.eq_of_toNat_eq (by assumption)

/-- R37: the latches hold the running command's OP. -/
theorem opl_of_decode {i : Instr} (h : decode (latchedWord s) = .ok i) : s.opl = i.op := by
  simpa [latchedWord] using op_of_decode h

theorem runCommand_inv {v : Word} {body : State → Result} (h : Inv s)
    (hb : s.status.busy = true) (hbody : held s = false → ∃ t, body s = .next t ∧ Inv t) :
    ∃ t, runCommand v body s = .next t ∧ Inv t := by
  cases hh : held s with
  | true => exact ⟨s, runCommand_held hb hh, h⟩
  | false =>
    rw [runCommand_body hb hh]
    exact hbody hh

theorem exec_running_inv (i : Instr) (h : Inv s) (hb : s.status.busy = true) (ho : s.opl = i.op) :
    ∃ t, exec i s = .next t ∧ Inv t := by
  obtain ⟨hcal, -⟩ := h.needsMet hb
  cases i with
  | init _ _ _ => exact runCommand_inv h hb fun hh => initBody_inv h hb hh ho
  | trig _ _ => exact runCommand_inv h hb fun hh => trigBody_inv h hb hh ho
  | rdpair _ _ => exact runCommand_inv h hb fun hh => rdpairBody_inv h hb hh ho
  | ldcal _ _ => exact runCommand_inv h hb fun hh => ldcalBody_inv h hb hh ho
  | ctemp _ _ =>
    refine runCommand_inv h hb fun hh => computeBody_inv h hb (.inl ho) ?_
    exact inv_computeTemp _ (h.errorFree hb hh) (hcal (ho ▸ rfl))
  | cpres _ _ =>
    refine runCommand_inv h hb fun hh => computeBody_inv h hb (.inr ho) ?_
    exact inv_computePress _ (h.errorFree hb hh)
  | rdtemp _ _ =>
    refine runCommand_inv h hb fun hh =>
      compositeBody_inv h hb hh ((commandAt_rdtemp ho).1 (h.running hb)) ?_ fun t k hat => ?_
    · exact inv_computeTemp _ (h.errorFree hb hh) (hcal (ho ▸ rfl))
    · exact inv_of_sameRecord h hb (by simp [ho, Instr.op]) k fun e =>
        (commandAt_rdtemp (e.trans ho)).2 (k.cfg ▸ hat)
  | rdpres _ _ =>
    refine runCommand_inv h hb fun hh =>
      compositeBody_inv h hb hh ((commandAt_rdpres ho).1 (h.running hb)) ?_ fun t k hat => ?_
    · exact inv_computePress _ (h.errorFree hb hh)
    · exact inv_of_sameRecord h hb (by simp [ho, Instr.op]) k fun e =>
        (commandAt_rdpres (e.trans ho)).2 (k.cfg ▸ hat)

/-- Any command in an idle block, and the latched one in a running block. -/
theorem exec_inv (i : Instr) (h : Inv s)
    (hi : s.status.busy = true → decode (latchedWord s) = .ok i) :
    ∃ t, exec i s = .next t ∧ Inv t := by
  cases hb : s.status.busy with
  | false => exact ⟨_, exec_idle i hb, inv_accept _ h hb⟩
  | true => exact exec_running_inv i h hb (opl_of_decode (hi hb))

/-! ## Steps -/

theorem inv_of_sequencerTurn (h : Inv s) (e : sequencerTurn exec s = .next t) : Inv t := by
  unfold sequencerTurn at e
  split at e
  · split at e
    next i hd =>
      obtain ⟨u, e', hu⟩ := exec_inv i h (fun _ => hd)
      cases e'.symm.trans e
      exact hu
    next => cases e
  · cases e
    exact h

theorem inv_of_hostWrite {off : Byte} {n : Nat} {v : Word} (h : Inv s)
    (e : hostWrite exec off n v s = .next t) : Inv t := by
  unfold hostWrite at e
  split at e
  case isFalse => cases e
  case isTrue =>
    split at e
    case isTrue => cases e; exact h
    case isFalse =>
      split at e
      case isTrue => cases e; exact (agentsOnly_reject v s).inv h
      case isFalse hb =>
        have hb : s.status.busy = false := by simpa using hb
        split at e
        next i _ => rw [exec_idle i hb] at e; cases e; exact inv_accept _ h hb
        next => cases e; exact inv_accept _ h hb

theorem inv_reset (c : Config) (es : List Event) (hr : List (Byte × Word)) (ms : List Move) :
    Inv { State.reset with cfg := c, events := es, hostReads := hr, moves := ms } where
  busyNotDone := fun _ => rfl
  idlePhase := fun _ => rfl
  failXactFits := ⟨nofun, fun h => absurd rfl h⟩
  busStatusFits := fun _ => rfl
  failPhaseLegal := rfl
  runningClear := fun _ => rfl
  idleQuiet := fun _ => ⟨⟨rfl, rfl, rfl, rfl, rfl⟩, rfl⟩
  lastOp := rfl
  running := nofun
  validTable := nofun
  b5OfTable := nofun
  needsMet := nofun
  loading := nofun

theorem inv_of_agentMove {m : Move} (h : Inv s) (e : agentMove exec m s = .next t) : Inv t := by
  cases m with
  | hostRead off n =>
    simp only [agentMove, hostRead] at e
    split at e <;> cases e
    exact (agentsOnly_hostReads s _).inv h
  | hostWrite off n v => exact inv_of_hostWrite h e
  | sequencer => exact inv_of_sequencerTurn h e
  | busAnswer b => cases e; exact (agentsOnly_busAnswer b s).inv h
  | timerAnswer => cases e; exact (agentsOnly_timerAnswer s).inv h
  | rst => cases e; exact inv_reset _ _ _ _

theorem inv_of_step (h : Inv s) (e : step s = .next t) : Inv t := by
  cases hm : s.moves with
  | nil => exact inv_of_sequencerTurn h (step_nil hm ▸ e)
  | cons m rest => exact inv_of_agentMove ((agentsOnly_moves s rest).inv h) (step_cons hm ▸ e)

theorem Reachable.inv (h : Reachable s) : Inv s := by
  induction h with
  | reset c => exact inv_reset c _ _ _
  | step s t ms _ e ih => exact inv_of_step ((agentsOnly_moves s ms).inv ih) e

end Sys2Proof.Machine
end

section
/-! PROOF. STATUS as the host reads it (R25): the bits of its fields and the numbers in them. -/

namespace Sys2Proof.Machine

variable {s : State}

theorem Phase.code_eq_zero (p : Phase) : p.code = 0#4 ↔ p = .idle := by cases p <;> decide

theorem ErrCode.code_eq_one (e : ErrCode) : e.code = 1#4 ↔ e = .busPhase := by
  cases e <;> decide

theorem Shape.code_eq_zero (x : Shape) : x.code = 0#2 ↔ x = .none := by cases x <;> decide

theorem windowRead_status : windowRead s 0x04#8 = statusWord s := rfl

/-- R25: BUSY and DONE. -/
theorem statusWord_busy_done :
    (statusWord s).getLsbD 0 = s.status.busy ∧ (statusWord s).getLsbD 1 = s.status.done := by
  constructor <;> (simp only [statusWord, BitVec.getLsbD_append]; simp)

/-- R25: FAIL_XACT, ERR, PHASE and BUS_STATUS. -/
theorem statusWord_fields :
    (statusWord s).extractLsb' 5 2 = s.status.failXact.code ∧
    (statusWord s).extractLsb' 8 4 = s.status.err.code ∧
    (statusWord s).extractLsb' 12 4 = s.phase.code ∧
    (statusWord s).extractLsb' 16 8 = s.status.busStatus := by
  refine ⟨?_, ?_, ?_, ?_⟩
  all_goals
    apply BitVec.eq_of_getLsbD_eq
    intro i hi
    simp (disch := omega) only [statusWord, BitVec.getLsbD_extractLsb', BitVec.getLsbD_append, hi,
      decide_true, Bool.true_and, if_neg, if_pos]
    congr 1
    omega

/-- Settles O49: every reachable state meets the invariant, whose first four clauses are R26's on the
registers; the bits the host reads are those registers. -/
theorem statusInvariants : Obligations.StatusInvariants := by
  intro s hs
  have h := hs.inv
  obtain ⟨hbusy, hdone⟩ := statusWord_busy_done (s := s)
  obtain ⟨hx, he, hp, hst⟩ := statusWord_fields (s := s)
  simp only [windowRead_status, hbusy, hdone, hx, he, hp, hst, Phase.code_eq_zero,
    ErrCode.code_eq_one, Shape.code_eq_zero, ne_eq]
  exact ⟨h.busyNotDone, h.idlePhase, h.failXactFits, h.busStatusFits⟩

end Sys2Proof.Machine
end

section
/-! PROOF. The host's accesses (20_memory.md R48 to R53): which have a step, what a write of a register
other than CMD does, and the one step of a command accepted by an idle block. -/

namespace Sys2Proof.Machine

variable {s : State}

/-! ## The decoder keeps every bit (30_encoding.md R68) -/

/-- A word that decodes is the word of the command it decodes to: with RSV = 0 its other three fields
are the command's OP and operands. -/
theorem encode_of_decode {v : Word} {i : Instr} (h : decode v = .ok i) : encode i = v := by
  have hop := op_of_decode h
  unfold decode at h
  split at h
  · cases h
  case isFalse hr =>
    have fields : i.hOperand = hField v ∧ i.bOperand = bField v := by
      split at h <;> cases h
      case h_1 => exact ⟨hi_lo _, rfl⟩
      all_goals exact ⟨rfl, rfl⟩
    obtain ⟨hh, hb⟩ := fields
    rw [not_not] at hr
    rw [encode, hh, hb, ← hop, ← hr, pack_fields]

/-! ## Which accesses have a step (R48) -/

theorem accessDefined_iff (off : Byte) (n : Nat) :
    accessDefined off n = true ↔ n = 4 ∧ off.toNat % 4 = 0 := by
  simp [accessDefined, BitVec.toNat_eq]

theorem accessDefined_eq_false (off : Byte) (n : Nat) :
    accessDefined off n = false ↔ n ≠ 4 ∨ off.toNat % 4 ≠ 0 := by
  rw [← Bool.not_eq_true, accessDefined_iff, not_and_or]

theorem hostRead_refused {off : Byte} {n : Nat} (h : accessDefined off n = false) :
    hostRead off n s = .refused .hostAccess := by
  simp [hostRead, h]

theorem hostRead_defined {off : Byte} {n : Nat} (h : accessDefined off n = true) :
    hostRead off n s =
      .next { s with hostReads := s.hostReads ++ [(off, windowRead s off)] } := by
  simp [hostRead, h]

theorem hostWrite_refused {run : Instr → State → Result} {off : Byte} {n : Nat} (v : Word)
    (h : accessDefined off n = false) : hostWrite run off n v s = .refused .hostAccess := by
  simp [hostWrite, h]

/-! ## What a write does (R50, R52, R53) -/

/-- R50: every register but CMD is read-only. -/
theorem hostWrite_other {run : Instr → State → Result} {off : Byte} {n : Nat} (v : Word)
    (h : accessDefined off n = true) (ho : off ≠ WindowReg.cmd.offset) :
    hostWrite run off n v s = .next s := by
  simp [hostWrite, h, ho]

/-- R52. -/
theorem hostWrite_cmd_busy {run : Instr → State → Result} {n : Nat} (v : Word)
    (h : accessDefined WindowReg.cmd.offset n = true) (hb : s.status.busy = true) :
    hostWrite run WindowReg.cmd.offset n v s = .next (reject v s) := by
  simp [hostWrite, h, hb]

/-- R53: an idle block accepts every word, whether it decodes or not. -/
theorem hostWrite_cmd_idle {n : Nat} (v : Word)
    (h : accessDefined WindowReg.cmd.offset n = true) (hb : s.status.busy = false) :
    hostWrite exec WindowReg.cmd.offset n v s = .next (accept v s) := by
  simp only [hostWrite, h, hb, if_true, ne_eq, not_true_eq_false, if_false, Bool.false_eq_true]
  split
  next i hd => rw [exec_idle i hb, encode_of_decode hd]
  next => rfl

/-- Any write of 4 bytes at an aligned offset has a step: ignored, rejected or accepted. -/
theorem hostWrite_defined {off : Byte} {n : Nat} (v : Word) (h : accessDefined off n = true) :
    ∃ t, hostWrite exec off n v s = .next t := by
  by_cases ho : off = WindowReg.cmd.offset
  · subst ho
    cases hb : s.status.busy with
    | true => exact ⟨_, hostWrite_cmd_busy v h hb⟩
    | false => exact ⟨_, hostWrite_cmd_idle v h hb⟩
  · exact ⟨_, hostWrite_other v h ho⟩

/-- R53: a write of CMD to an idle block, as a step of the whole. -/
theorem step_cmd_idle {v : Word} {ms : List Move} (hb : s.status.busy = false)
    (hm : s.moves = .hostWrite 0x00#8 4 v :: ms) :
    step s = .next (accept v { s with moves := ms }) := by
  rw [step_cons hm]
  exact hostWrite_cmd_idle v rfl hb

/-! ## The ends of an acceptance (R53, R132) -/

theorem needsCal_iff (op : BitVec 4) :
    needsCal op = true ↔ op = 5#4 ∨ op = 6#4 ∨ op = 7#4 ∨ op = 8#4 := by
  simp [needsCal, or_assoc]

theorem needsB5_iff (op : BitVec 4) : needsB5 op = true ↔ op = 6#4 ∨ op = 8#4 := by
  simp [needsB5]

/-- R132: the latched command needs a table or a b5 that the block does not have. -/
def Lacks (v : Word) (s : State) : Prop :=
  (needsCal (opField v) = true ∧ s.status.calValid = false) ∨
    (needsB5 (opField v) = true ∧ s.status.b5Valid = false)

theorem accept_illegal {v : Word} (hl : legal v = false) :
    accept v s = complete .illegalCmd .idle (accepted v s) := by
  simp [accept, hl, raiseError]

theorem accept_lacking {v : Word} (hl : legal v = true) (hk : Lacks v s) :
    accept v s = complete .uncalibrated .idle (accepted v s) := by
  rcases accept_cases v s with ⟨hl', -⟩ | ⟨-, -, -, e⟩ | ⟨-, -, -, e⟩ | ⟨-, hc, h5, -⟩
  · simp [hl] at hl'
  · exact e
  · exact e
  · rcases hk with ⟨hn, hv⟩ | ⟨hn, hv⟩
    · simp [hc hn] at hv
    · simp [h5 hn] at hv

theorem accept_starts {v : Word} (hl : legal v = true) (hk : ¬ Lacks v s) :
    accept v s = startCommand (accepted v s) := by
  rcases accept_cases v s with ⟨hl', -⟩ | ⟨-, hn, hv, -⟩ | ⟨-, hn, hv, -⟩ | ⟨-, -, -, e⟩
  · simp [hl] at hl'
  · exact absurd (.inl ⟨hn, hv⟩) hk
  · exact absurd (.inr ⟨hn, hv⟩) hk
  · exact e

/-- LDCAL needs neither a table nor a b5. -/
theorem not_lacks_ldcal {v : Word} (ho : opField v = 0x4#4) : ¬ Lacks v s := by
  simp [Lacks, ho, needsCal, needsB5]

theorem startCommand_ldcal (h : s.opl = 0x4#4) :
    startCommand s = clearCalibration (setBusy s) := if_pos h

theorem startCommand_other (h : s.opl ≠ 0x4#4) : startCommand s = setBusy s := if_neg h

/-! ## The obligations -/

/-- Settles O13: an idle block accepts any written word (`step_cmd_idle`), and the acceptance has one of
the ends of `accept_illegal`, `accept_lacking` and `accept_starts`. -/
theorem acceptedCommandWrite : Obligations.AcceptedCommandWrite := by
  intro s v ms hb hm op base ended answers needsTable needsB lacks
  have hstep := step_cmd_idle hb hm
  have hlacks : lacks ↔ Lacks v { s with moves := ms } := by
    simp only [Lacks, needsCal_iff, needsB5_iff]
    rfl
  have answers_ended (e : ErrCode) (h : accept v { s with moves := ms } =
      complete e .idle (accepted v { s with moves := ms })) : answers (ended e) := by
    refine ⟨_, h ▸ hstep, ?_⟩
    have hev : s.events ++ [.cmdAccepted v] ++ [.cmdDone e] =
        s.events ++ [.cmdAccepted v, .cmdDone e] := List.append_assoc ..
    simp only [ended, base, hb, ← hev]
    rfl
  refine ⟨fun hl => ?_, fun hl hk => ?_, fun hl hk ho => ?_, fun hl ho => ?_⟩
  · exact answers_ended _ (accept_illegal hl)
  · exact answers_ended _ (accept_lacking hl (hlacks.1 hk))
  · rw [accept_starts hl (mt hlacks.2 hk), startCommand_other ho] at hstep
    exact ⟨_, hstep, rfl⟩
  · rw [accept_starts hl (not_lacks_ldcal ho), startCommand_ldcal ho] at hstep
    exact ⟨_, hstep, rfl⟩

/-- Settles O10: R48 refuses exactly the accesses that `accessDefined` rejects. -/
theorem onlyWordAccessesHaveAStep : Obligations.OnlyWordAccessesHaveAStep := by
  intro s off n v
  rw [← accessDefined_eq_false, ← accessDefined_iff]
  exact ⟨fun h => ⟨hostRead_refused h, hostWrite_refused v h⟩,
    fun h => ⟨⟨_, hostRead_defined h⟩, hostWrite_defined v h⟩⟩

/-- Settles O11: the write's own move leaves the list, and nothing else changes. -/
theorem otherWritesAreIgnored : Obligations.OtherWritesAreIgnored := by
  intro s off v ms ha ho hm
  rw [step_cons hm]
  exact hostWrite_other v ((accessDefined_iff off 4).2 ⟨rfl, ha⟩) ho

end Sys2Proof.Machine
end

section
/-! PROOF. Command words by their numbers (30_encoding.md R71, R73, R75, R78): decoding by OP and RSV, the
example words, and the acceptance of an illegal word (R53, R133). -/

namespace Sys2Proof

variable {v : Word}

/-! ## OP and RSV as numbers (R68) -/

theorem opField_toNat (v : Word) : (opField v).toNat = v.toNat % 16 := by
  simp [opField]

theorem rsvField_toNat (v : Word) : (rsvField v).toNat = v.toNat / 16 % 16 := by
  simp [rsvField, Nat.shiftRight_eq_div_pow]

theorem rsvField_eq_zero_iff : rsvField v = 0#4 ↔ v.toNat / 16 % 16 = 0 := by
  rw [BitVec.toNat_eq, rsvField_toNat]
  rfl

/-- R73, on the word's number. -/
theorem legal_iff :
    legal v = true ↔ (1 ≤ v.toNat % 16 ∧ v.toNat % 16 ≤ 8) ∧ v.toNat / 16 % 16 = 0 := by
  rw [legal, Bool.and_eq_true, decide_eq_true_eq, beq_iff_eq, opField_toNat, rsvField_eq_zero_iff]

/-! ## Decoding by OP and RSV (R71, R75) -/

theorem decode_reservedBits (h : v.toNat / 16 % 16 ≠ 0) : decode v = .error .reservedBits :=
  if_pos (mt rsvField_eq_zero_iff.1 h)

/-- An OP outside 1 to 8 is no command, whatever RSV is. -/
theorem decode_error_of_op (h : v.toNat % 16 = 0 ∨ 9 ≤ v.toNat % 16) : ∃ r, decode v = .error r := by
  rw [← opField_toNat] at h
  unfold decode
  split
  · exact ⟨_, rfl⟩
  · split
    case h_9 => exact ⟨_, rfl⟩
    all_goals omega

/-- Settles O2: RSV is tested first, then OP chooses the branch of the decoder. -/
theorem decodeByOpAndRsv : Obligations.DecodeByOpAndRsv := by
  intro v op rsv
  have reads (k : Nat) (hr : rsv = 0) (ho : op = k) :
      rsvField v = 0#4 ∧ (opField v).toNat = k :=
    ⟨rsvField_eq_zero_iff.2 hr, (opField_toNat v).trans ho⟩
  refine ⟨?_, ?_, ?_, ?_, ?_, ?_, ?_, ?_, ?_⟩
  · rintro (h | h | h)
    · exact ⟨_, decode_reservedBits h⟩
    · exact decode_error_of_op (.inl h)
    · exact decode_error_of_op (.inr h)
  all_goals
    intro hr ho
    obtain ⟨hr, ho⟩ := reads _ hr ho
    simp [decode, hr, ho]

/-! ## The example words (R78) -/

/-- Settles O3: fixed lines and words, evaluated. -/
theorem exampleWords : Obligations.ExampleWords := by
  unfold Obligations.ExampleWords
  decide

end Sys2Proof

namespace Sys2Proof.Machine

variable {s : State}

/-! ## Illegal words (R53, R73, R133) -/

/-- R52: a write of CMD to a running block, as a step of the whole. -/
theorem step_cmd_busy {v : Word} {ms : List Move} (hb : s.status.busy = true)
    (hm : s.moves = .hostWrite 0x00#8 4 v :: ms) :
    step s = .next (reject v { s with moves := ms }) := by
  rw [step_cons hm]
  exact hostWrite_cmd_busy v rfl hb

/-- Settles O14: an idle block accepts an illegal word and completes with ILLEGAL_CMD
(`accept_illegal`); a running one rejects it. -/
theorem illegalWord : Obligations.IllegalWord := by
  intro s v ms hm
  refine ⟨legal_iff, fun hl hb => ?_, fun hb => ?_⟩
  · refine ⟨_, step_cmd_idle hb hm, ?_⟩
    rw [accept_illegal hl]
    simp [opField, ErrCode.code]
  · exact ⟨_, step_cmd_busy hb hm, rfl, rfl, rfl⟩

end Sys2Proof.Machine
end

section
/-! PROOF. The ignored fields of a command (30_encoding.md R70). Clearing them commutes with a command's
acceptance and with every step of its body: what is latched or recorded in an ignored field is read by
neither. -/

namespace Sys2Proof.Machine

variable {s : State}

/-! ## Clearing the ignored fields of a word -/

/-- A legal word keeps its OP and its RSV, and the used parts of its operands. -/
theorem clearIgnored_word {v : Word} (hl : legal v = true) : clearIgnored v =
    packWord (usedH (opField v) (hField v)) (usedB (opField v) (bField v)) 0#4 (opField v) :=
  if_pos hl

theorem legal_packWord (h : Half) (b : Byte) (op : BitVec 4) :
    legal (packWord h b 0#4 op) = decide (1 ≤ op.toNat ∧ op.toNat ≤ 8) := by
  simp [legal]

theorem legal_clearIgnored {v : Word} (hl : legal v = true) : legal (clearIgnored v) = true := by
  rw [clearIgnored_word hl, legal_packWord]
  rw [legal, Bool.and_eq_true] at hl
  exact hl.1

theorem opField_clearIgnored {v : Word} (hl : legal v = true) :
    opField (clearIgnored v) = opField v := by
  rw [clearIgnored_word hl, opField_pack]

/-- Commands that differ only in ignored fields have the same OP. -/
theorem op_of_clearIgnored_encode {i j : Instr}
    (h : clearIgnored (encode i) = clearIgnored (encode j)) : i.op = j.op := by
  simpa [opField_clearIgnored] using congrArg opField h

/-! ## What clearing leaves of a state -/

@[simp] theorem clearIgnored_status (s : State) : s.clearIgnored.status = s.status := rfl
@[simp] theorem clearIgnored_opl (s : State) : s.clearIgnored.opl = s.opl := rfl
@[simp] theorem clearIgnored_bl (s : State) : s.clearIgnored.bl = usedB s.opl s.bl := rfl
@[simp] theorem clearIgnored_hl (s : State) : s.clearIgnored.hl = usedH s.opl s.hl := rfl
@[simp] theorem clearIgnored_phase (s : State) : s.clearIgnored.phase = s.phase := rfl
@[simp] theorem clearIgnored_xact (s : State) : s.clearIgnored.xact = s.xact := rfl
@[simp] theorem clearIgnored_stage (s : State) : s.clearIgnored.stage = s.stage := rfl
@[simp] theorem clearIgnored_ra (s : State) : s.clearIgnored.ra = s.ra := rfl
@[simp] theorem clearIgnored_ia (s : State) : s.clearIgnored.ia = s.ia := rfl
@[simp] theorem clearIgnored_tb (s : State) : s.clearIgnored.tb = s.tb := rfl
@[simp] theorem clearIgnored_busAns (s : State) : s.clearIgnored.busAns = s.busAns := rfl
@[simp] theorem clearIgnored_cfg (s : State) : s.clearIgnored.cfg = s.cfg := rfl
@[simp] theorem clearIgnored_calstat (s : State) : s.clearIgnored.calstat = s.calstat := rfl
@[simp] theorem clearIgnored_idx (s : State) : s.clearIgnored.idx = s.idx := rfl
@[simp] theorem clearIgnored_ffail (s : State) : s.clearIgnored.ffail = s.ffail := rfl
@[simp] theorem clearIgnored_held (s : State) : held s.clearIgnored = held s := rfl

/-! ## Clearing commutes with the shared operations -/

theorem clearIgnored_emit {e : Event} (he : e.clearIgnored = e) (s : State) :
    (emit e s).clearIgnored = emit e s.clearIgnored := by
  simp [emit, State.clearIgnored, he]

@[simp] theorem clearIgnored_post (r : BusReq) (s : State) :
    (post r s).clearIgnored = post r s.clearIgnored := clearIgnored_emit rfl _

@[simp] theorem clearIgnored_enterPhase (p : Phase) (r : BusReq) (s : State) :
    (enterPhase p r s).clearIgnored = enterPhase p r s.clearIgnored := clearIgnored_post _ _

@[simp] theorem clearIgnored_abort (b : Byte) (s : State) :
    (abort b s).clearIgnored = abort b s.clearIgnored := clearIgnored_enterPhase _ _ _

@[simp] theorem clearIgnored_check (ok : Bool) (b : Byte) (p : Phase) (r : BusReq) (s : State) :
    (check ok b p r s).clearIgnored = check ok b p r s.clearIgnored := by
  cases ok
  · exact clearIgnored_abort b s
  · exact clearIgnored_enterPhase p r s

@[simp] theorem clearIgnored_startTrig (tb : Byte) (s : State) :
    (startTrig tb s).clearIgnored = startTrig tb s.clearIgnored := clearIgnored_enterPhase _ _ _

@[simp] theorem clearIgnored_startRead (ra : Byte) (ia : Half) (s : State) :
    (startRead ra ia s).clearIgnored = startRead ra ia s.clearIgnored :=
  clearIgnored_enterPhase _ _ _

@[simp] theorem clearIgnored_convRequest (m : ConvMode) (s : State) :
    (convRequest m s).clearIgnored = convRequest m s.clearIgnored := clearIgnored_emit rfl _

@[simp] theorem clearIgnored_complete (c : ErrCode) (p : Phase) (s : State) :
    (complete c p s).clearIgnored = complete c p s.clearIgnored := clearIgnored_emit rfl _

@[simp] theorem clearIgnored_raiseError (e : Raised) (s : State) :
    (raiseError e s).clearIgnored = raiseError e s.clearIgnored := by
  cases e <;> exact clearIgnored_complete _ _ _

/-! ## Clearing commutes with the acceptance of a legal word (R53) -/

theorem clearIgnored_accepted {v : Word} (hl : legal v = true) (s : State) :
    (accepted v s).clearIgnored = accepted (clearIgnored v) s.clearIgnored := by
  have hw := clearIgnored_word hl
  simp [accepted, emit, latch, clearRecord, State.clearIgnored, Event.clearIgnored, hw]

theorem clearIgnored_startCommand (s : State) :
    (startCommand s).clearIgnored = startCommand s.clearIgnored := by
  unfold startCommand
  rw [clearIgnored_opl]
  split <;> rfl

theorem clearIgnored_accept {v : Word} (hl : legal v = true) (s : State) :
    (accept v s).clearIgnored = accept (clearIgnored v) s.clearIgnored := by
  have hl' := legal_clearIgnored hl
  have hk : Lacks (clearIgnored v) s.clearIgnored ↔ Lacks v s := by
    simp [Lacks, opField_clearIgnored hl]
  by_cases h : Lacks v s
  · rw [accept_lacking hl h, accept_lacking hl' (hk.2 h), clearIgnored_complete,
      clearIgnored_accepted hl]
  · rw [accept_starts hl h, accept_starts hl' (mt hk.1 h), clearIgnored_startCommand,
      clearIgnored_accepted hl]

/-! ## Clearing commutes with a transaction -/

/-- A step inside a transaction, its state cleared. -/
def XStep.clearIgnored : XStep → XStep
  | .running s => .running s.clearIgnored
  | .ended f s => .ended f s.clearIgnored
  | .stuck => .stuck

/-- An answer of the machine, its state cleared. -/
def clearResult : Result → Result
  | .next s => .next s.clearIgnored
  | .fault r => .fault r
  | .refused r => .refused r

@[simp] theorem clearResult_next (s : State) : clearResult (.next s) = .next s.clearIgnored := rfl
@[simp] theorem clearResult_fault (r : Fault) : clearResult (.fault r) = .fault r := rfl

@[simp] theorem clearIgnored_running (s : State) :
    (XStep.running s).clearIgnored = .running s.clearIgnored := rfl
@[simp] theorem clearIgnored_stuck : XStep.stuck.clearIgnored = .stuck := rfl
@[simp] theorem clearIgnored_endTransaction (s : State) :
    (endTransaction s).clearIgnored = endTransaction s.clearIgnored := rfl

theorem clearIgnored_trigStep (s : State) :
    (trigStep s).clearIgnored = trigStep s.clearIgnored := by
  unfold trigStep
  rw [clearIgnored_phase, clearIgnored_busAns]
  split <;> simp

theorem clearIgnored_readStep (s : State) :
    (readStep s).clearIgnored = readStep s.clearIgnored := by
  unfold readStep
  rw [clearIgnored_phase, clearIgnored_busAns]
  split
  -- the two READ answers, which go into dhi and dlo (R93)
  case h_12 | h_16 => exact congrArg XStep.running (clearIgnored_post _ _)
  all_goals simp

/-- Clearing commutes with a command's step inside a transaction if it does with what the command makes of
the outcome. -/
theorem clearResult_withTransaction {k : Option XFail → State → State}
    (hk : ∀ f u, (k f u).clearIgnored = k f u.clearIgnored) (x : XStep) :
    clearResult (withTransaction x k) = withTransaction x.clearIgnored k := by
  cases x with
  | running u => rfl
  | ended f u => exact congrArg Host.Outcome.next (hk f u)
  | stuck => rfl

theorem clearIgnored_onOutcome {ok : State → State}
    (hok : ∀ u, (ok u).clearIgnored = ok u.clearIgnored) (f : Option XFail) (s : State) :
    (onOutcome ok f s).clearIgnored = onOutcome ok f s.clearIgnored := by
  cases f with
  | none => exact hok s
  | some f => exact clearIgnored_raiseError _ s

/-! ## Clearing commutes with what the commands do themselves -/

theorem clearIgnored_rdpairDone (s : State) :
    (rdpairDone s).clearIgnored = rdpairDone s.clearIgnored := clearIgnored_complete _ _ _

theorem clearIgnored_resultReadDone (s : State) :
    (resultReadDone s).clearIgnored = resultReadDone s.clearIgnored := rfl

theorem clearIgnored_calReadOutcome (f : Option XFail) (s : State) :
    (calReadOutcome f s).clearIgnored = calReadOutcome f s.clearIgnored := by
  cases f with
  | none => exact clearIgnored_emit rfl _
  | some f =>
    have hk : (keepFirstFailure f (markReadFail s)).clearIgnored =
        keepFirstFailure f (markReadFail s.clearIgnored) := by
      rw [keepFirstFailure_eq, keepFirstFailure_eq]
      rfl
    exact (clearIgnored_emit rfl _).trans (congrArg _ hk)

theorem clearIgnored_ldcalFinish (s : State) :
    (ldcalFinish s).clearIgnored = ldcalFinish s.clearIgnored := by
  unfold ldcalFinish
  rw [clearIgnored_ffail, clearIgnored_calstat]
  split
  · exact clearIgnored_raiseError _ _
  · split
    · exact clearIgnored_raiseError _ _
    · exact clearIgnored_complete _ _ _

theorem clearIgnored_startCalRead (i : BitVec 4) (s : State) :
    (startCalRead i s).clearIgnored = startCalRead i s.clearIgnored := clearIgnored_startRead _ _ _

theorem clearIgnored_calReadNext (s : State) :
    (calReadNext s).clearIgnored = calReadNext s.clearIgnored := by
  unfold calReadNext
  rw [clearIgnored_idx]
  split
  · exact clearIgnored_startCalRead _ s
  · exact clearIgnored_ldcalFinish s

theorem clearIgnored_calReadEnd (f : Option XFail) (s : State) :
    (calReadEnd f s).clearIgnored = calReadEnd f s.clearIgnored := by
  rw [calReadEnd, clearIgnored_calReadNext, clearIgnored_calReadOutcome, ← calReadEnd]

theorem computeTemp_divZero {raw : Half} (h : tempf s.cfg s.cal raw = none) :
    computeTemp raw s = raiseError .divZero s := by
  simp [computeTemp, h]

theorem computeTemp_result {raw t : Half} {b : Word} (h : tempf s.cfg s.cal raw = some (t, b)) :
    computeTemp raw s = complete .none .idle (emit (.tempResult t b)
      { s with temp := t, b5 := b, status := { s.status with b5Valid := true } }) := by
  simp [computeTemp, h]

theorem computePress_divZero {raw : Half} (h : presf s.cfg s.cal s.b5 raw = none) :
    computePress raw s = raiseError .divZero s := by
  simp [computePress, h]

theorem computePress_result {raw : Half} {p : Word} (h : presf s.cfg s.cal s.b5 raw = some p) :
    computePress raw s =
      complete .none .idle (emit (.pressResult p) { s with press := p }) := by
  simp [computePress, h]

theorem clearIgnored_computeTemp (raw : Half) (s : State) :
    (computeTemp raw s).clearIgnored = computeTemp raw s.clearIgnored := by
  cases h : tempf s.cfg s.cal raw with
  | none =>
    rw [computeTemp_divZero h, clearIgnored_raiseError, computeTemp_divZero (s := s.clearIgnored) h]
  | some r =>
    rw [computeTemp_result h, clearIgnored_complete, clearIgnored_emit rfl,
      computeTemp_result (s := s.clearIgnored) h]
    rfl

theorem clearIgnored_computePress (raw : Half) (s : State) :
    (computePress raw s).clearIgnored = computePress raw s.clearIgnored := by
  cases h : presf s.cfg s.cal s.b5 raw with
  | none =>
    rw [computePress_divZero h, clearIgnored_raiseError, computePress_divZero (s := s.clearIgnored) h]
  | some p =>
    rw [computePress_result h, clearIgnored_complete, clearIgnored_emit rfl,
      computePress_result (s := s.clearIgnored) h]
    rfl

/-! ## Clearing commutes with the step of a running command

The parts of the latches a body reads are those that R69 does not call ignored for its OP. -/

theorem clearResult_initBody (ho : s.opl = 0x1#4) :
    clearResult (initBody s) = initBody s.clearIgnored := by
  have hB : s.clearIgnored.bl = s.bl := by simp [usedB, ho]
  have hH : loByte s.clearIgnored.hl = loByte s.hl := by simp [usedH, ho]
  unfold initBody
  rw [clearIgnored_phase, clearIgnored_busAns, hB, hH]
  split <;> simp

theorem clearResult_trigBody (ho : s.opl = 0x2#4) :
    clearResult (trigBody s) = trigBody s.clearIgnored := by
  have hB : s.clearIgnored.bl = s.bl := by simp [usedB, ho]
  unfold trigBody
  rw [clearIgnored_xact, hB]
  split
  · simp
  · rw [clearResult_withTransaction, clearIgnored_trigStep]
    exact clearIgnored_onOutcome (clearIgnored_complete _ _)

theorem clearResult_rdpairBody (ho : s.opl = 0x3#4) :
    clearResult (rdpairBody s) = rdpairBody s.clearIgnored := by
  have hB : s.clearIgnored.bl = s.bl := by simp [usedB, ho]
  have hH : s.clearIgnored.hl = s.hl := by simp [usedH, ho]
  unfold rdpairBody
  rw [clearIgnored_xact, hB, hH]
  split
  · simp
  · rw [clearResult_withTransaction, clearIgnored_readStep]
    exact clearIgnored_onOutcome clearIgnored_rdpairDone

theorem clearResult_ldcalBody (s : State) :
    clearResult (ldcalBody s) = ldcalBody s.clearIgnored := by
  unfold ldcalBody
  rw [clearIgnored_xact]
  split
  · rw [clearResult_next, clearIgnored_startCalRead]
  · rw [clearResult_withTransaction clearIgnored_calReadEnd, clearIgnored_readStep]

theorem clearResult_computeBody {compute : Half → State → State}
    (hc : ∀ raw u, (compute raw u).clearIgnored = compute raw u.clearIgnored)
    (ho : s.opl = 0x5#4 ∨ s.opl = 0x6#4) :
    clearResult (computeBody compute s) = computeBody compute s.clearIgnored := by
  have hH : s.clearIgnored.hl = s.hl := by rcases ho with ho | ho <;> simp [usedH, ho]
  unfold computeBody
  rw [clearIgnored_phase, hH]
  split
  · rfl
  · rw [clearResult_next, hc]
  · rfl

theorem clearResult_compositeBody {compute : Half → State → State}
    (hc : ∀ raw u, (compute raw u).clearIgnored = compute raw u.clearIgnored)
    (ctrl : Byte) (mode : ConvMode) (s : State) :
    clearResult (compositeBody ctrl mode compute s) =
      compositeBody ctrl mode compute s.clearIgnored := by
  have stage1 : clearResult (withTransaction (trigStep s)
      (onOutcome fun s => convRequest mode { s with stage := 2 })) =
      withTransaction (trigStep s.clearIgnored)
        (onOutcome fun s => convRequest mode { s with stage := 2 }) := by
    rw [clearResult_withTransaction, clearIgnored_trigStep]
    exact clearIgnored_onOutcome fun _ => clearIgnored_convRequest _ _
  have stage3 : clearResult (withTransaction (readStep s) (onOutcome resultReadDone)) =
      withTransaction (readStep s.clearIgnored) (onOutcome resultReadDone) := by
    rw [clearResult_withTransaction, clearIgnored_readStep]
    exact clearIgnored_onOutcome clearIgnored_resultReadDone
  have stage4 : clearResult (.next (compute s.rawl s)) = .next (compute s.rawl s.clearIgnored) := by
    rw [clearResult_next, hc]
  unfold compositeBody
  rw [clearIgnored_stage, clearIgnored_xact, clearIgnored_cfg, ← stage1, ← stage3]
  repeat' split
  · rfl
  · rw [clearResult_next, clearIgnored_startTrig]
  · rfl
  · rfl
  · rw [clearResult_next, clearIgnored_startRead]
  · rfl
  · exact stage4
  · rfl

/-! ## Commands -/

/-- The step of a running command, by its OP (R71). -/
def bodyOfOp (op : BitVec 4) (s : State) : Result :=
  match op.toNat with
  | 1 => initBody s
  | 2 => trigBody s
  | 3 => rdpairBody s
  | 4 => ldcalBody s
  | 5 => computeBody computeTemp s
  | 6 => computeBody computePress s
  | 7 => compositeBody s.cfg.tempCtrl .temp computeTemp s
  | 8 => compositeBody s.cfg.pressCtrl .press computePress s
  | _ => .fault .sequencerState

/-- A running command is known by its OP alone; its operands are read from the latches. -/
theorem exec_eq_runCommand (i : Instr) (s : State) :
    exec i s = runCommand (encode i) (bodyOfOp i.op) s := by
  cases i <;> rfl

theorem clearResult_bodyOfOp (i : Instr) (ho : s.opl = i.op) :
    clearResult (bodyOfOp i.op s) = bodyOfOp i.op s.clearIgnored := by
  cases i with
  | init _ _ _ => exact clearResult_initBody ho
  | trig _ _ => exact clearResult_trigBody ho
  | rdpair _ _ => exact clearResult_rdpairBody ho
  | ldcal _ _ => exact clearResult_ldcalBody s
  | ctemp _ _ => exact clearResult_computeBody clearIgnored_computeTemp (.inl ho)
  | cpres _ _ => exact clearResult_computeBody clearIgnored_computePress (.inr ho)
  | rdtemp _ _ => exact clearResult_compositeBody clearIgnored_computeTemp _ _ s
  | rdpres _ _ => exact clearResult_compositeBody clearIgnored_computePress _ _ s

/-- A command's answer, cleared, is a function of its cleared word, its OP and the cleared state. -/
theorem clearResult_exec (i : Instr) (s : State) (ho : s.status.busy = true → s.opl = i.op) :
    clearResult (exec i s) =
      runCommand (clearIgnored (encode i)) (bodyOfOp i.op) s.clearIgnored := by
  rw [exec_eq_runCommand]
  cases hb : s.status.busy with
  | false =>
    rw [runCommand_idle hb, runCommand_idle (s := s.clearIgnored) hb, clearResult_next,
      clearIgnored_accept (legal_encode i)]
  | true =>
    cases hh : held s with
    | true =>
      rw [runCommand_held hb hh, runCommand_held (s := s.clearIgnored) hb hh, clearResult_next]
    | false =>
      rw [runCommand_body hb hh, runCommand_body (s := s.clearIgnored) hb hh,
        clearResult_bodyOfOp i (ho hb)]

theorem next_of_clearResult {r : Result} {u : State} (h : clearResult r = .next u) :
    ∃ t, r = .next t ∧ t.clearIgnored = u := by
  cases r with
  | next t => exact ⟨t, rfl, Host.Outcome.next.inj h⟩
  | fault f => cases h
  | refused f => cases h

/-- Settles O5: the two answers, cleared, are one answer (`clearResult_exec`), for the cleared words, the
OPs and the cleared states agree. -/
theorem ignoredFieldsHaveNoEffect : Obligations.IgnoredFieldsHaveNoEffect := by
  intro i j s s' t hw hs ho ht
  have hop : i.op = j.op := op_of_clearIgnored_encode hw
  have hbusy : s.status.busy = s'.status.busy := congrArg (·.status.busy) hs
  have hopl : s.opl = s'.opl := congrArg (·.opl) hs
  have ho' : s'.status.busy = true → s'.opl = j.op := fun hb =>
    hopl ▸ hop ▸ ho (hbusy.trans hb)
  have same : clearResult (exec j s') = clearResult (exec i s) := by
    rw [clearResult_exec i s ho, clearResult_exec j s' ho', hw, hop, hs]
  rw [ht] at same
  obtain ⟨t', ht', e⟩ := next_of_clearResult same
  exact ⟨t', ht', e.symm⟩

end Sys2Proof.Machine
end

section
/-! PROOF. The phase table (40_bus_transactions.md R84, R85, R90): one step inside a transaction of either
shape, as the state's row of the table gives it, for every command with a transaction. -/

namespace Sys2Proof.Machine

variable {s : State} {row : PhaseRow}

/-- One step inside the transaction the block is in. -/
def transactionStep (s : State) : XStep :=
  match s.xact with
  | .none => .stuck
  | .trig => trigStep s
  | .rdpair => readStep s

theorem transactionStep_trig (hx : s.xact = .trig) : transactionStep s = trigStep s := by
  simp [transactionStep, hx]

theorem transactionStep_read (hx : s.xact = .rdpair) : transactionStep s = readStep s := by
  simp [transactionStep, hx]

/-! ## A row of the table as the step it stands for -/

/-- R90: the answer to a request of the phase is followed by the next request, a READ byte kept (R93). -/
theorem transactionStep_request {k : Nat} {r r' : BusReq} {b : Byte} (hrow : phaseRow s = some row)
    (hr : row.requests[k]? = some r) (hr' : row.requests[k + 1]? = some r')
    (ha : s.busAns = some (answerOf r b)) :
    transactionStep s = .running (post r' (captureAnswer (answerOf r b) s)) := by
  unfold phaseRow at hrow
  split at hrow <;> cases hrow
  -- the place of the request in its phase, one of at most three before STATUS
  all_goals rcases k with _ | _ | _ | k <;> simp at hr hr'
  all_goals
    subst hr hr'
    simp_all [transactionStep, trigStep, readStep, captureAnswer]

/-- R84 and R85: the status byte is compared with the bytes of the row. -/
theorem transactionStep_check {b : Byte} (hrow : phaseRow s = some row)
    (ha : s.busAns = some (.status b)) :
    transactionStep s =
      .running (check (decide (b ∈ row.passes)) b row.next row.nextRequest s) := by
  unfold phaseRow at hrow
  split at hrow <;> cases hrow
  all_goals simp_all [transactionStep, trigStep, readStep, beq_eq_decide]

/-! ## Commands inside a transaction -/

/-- The step of a command inside a transaction is that of the transaction; what differs is what the
command does at its end. -/
theorem exec_transacting {i : Instr} (hb : s.status.busy = true) (hh : held s = false)
    (ht : Transacting i s) : ∃ k, exec i s = withTransaction (transactionStep s) k := by
  rw [exec_eq_runCommand, runCommand_body hb hh]
  have composite (ctrl : Byte) (mode : ConvMode) (compute : Half → State → State)
      (h : (s.stage = 1 ∧ s.xact = .trig) ∨ (s.stage = 3 ∧ s.xact = .rdpair)) :
      ∃ k, compositeBody ctrl mode compute s = withTransaction (transactionStep s) k := by
    rcases h with ⟨h1, hx⟩ | ⟨h3, hx⟩
    · rw [transactionStep_trig hx]
      exact ⟨_, by simp only [compositeBody, h1, hx]; rfl⟩
    · rw [transactionStep_read hx]
      exact ⟨_, by simp only [compositeBody, h3, hx]; rfl⟩
  cases i with
  | init _ _ _ => exact ht.elim
  | trig _ _ =>
    have hx : s.xact = .trig := ht
    rw [transactionStep_trig hx]
    exact ⟨_, if_neg (by simp [hx])⟩
  | rdpair _ _ | ldcal _ _ =>
    have hx : s.xact = .rdpair := ht
    rw [transactionStep_read hx]
    exact ⟨_, if_neg (by simp [hx])⟩
  | ctemp _ _ => exact ht.elim
  | cpres _ _ => exact ht.elim
  | rdtemp _ _ => exact composite _ _ _ ht
  | rdpres _ _ => exact composite _ _ _ ht

/-- A transaction that goes on is all the command's step does. -/
theorem exec_running {i : Instr} {t : State} (hb : s.status.busy = true) (hh : held s = false)
    (ht : Transacting i s) (h : transactionStep s = .running t) : exec i s = .next t := by
  obtain ⟨k, e⟩ := exec_transacting hb hh ht
  rw [e, h, withTransaction]

/-- Settles O21: the row's step is the transaction's (`transactionStep_request`,
`transactionStep_check`), and the transaction's is the command's. -/
theorem phaseTable : Obligations.PhaseTable := by
  intro i s row hb hh ht hrow
  refine ⟨fun k r r' b hr hr' ha => ?_, fun b ha => ⟨fun hp => ?_, fun hp => ?_⟩⟩
  · exact exec_running hb hh ht (transactionStep_request hrow hr hr' ha)
  · rw [exec_running hb hh ht (transactionStep_check hrow ha), decide_eq_true hp]
    rfl
  · rw [exec_running hb hh ht (transactionStep_check hrow ha), decide_eq_false hp]
    rfl

end Sys2Proof.Machine
end

section
/-! PROOF. A transaction under a controller that answers at once (40_bus_transactions.md R83, R91, R92):
each request with its answer is two steps, so a run of the whole is a walk through the phase table, from
one request to the next, that ends with the answered STOP. -/

namespace Sys2Proof

/-- A command's word decodes to the command (30_encoding.md R69, R71). -/
theorem decode_encode (i : Instr) : decode (encode i) = .ok i := by
  cases i <;> simp [decode, Instr.op, Instr.bOperand, Instr.hOperand]

end Sys2Proof

namespace Sys2Proof.Machine

variable {s t : State} {i : Instr} {x : Shape} {onEnd : Option XFail → State → State}

/-! ## The two steps of an exchange -/

theorem run_succ (k : Nat) (h : step s = .next t) : core.run (k + 1) s = core.run k t := by
  have h' : core.step s = .next t := h
  simp only [Host.Core.run, h']

/-- The state after a request and its answer, before the sequencer uses the answer (R81). -/
def served (e : BusReq × Byte) (s : State) : State :=
  { s with
    busReq := none, busAns := some (answerOf e.1 e.2), events := s.events ++ exchangeEvents e }

/-- The controller's step: it answers the request just posted. -/
theorem step_busAnswer_post (r : BusReq) (b : Byte) (s : State) (ms : List Move) :
    step { post r s with moves := .busAnswer b :: ms } =
      .next { served (r, b) s with moves := ms } := by
  have hev : s.events ++ [.bpReq r] ++ [.bpRsp r (answerOf r b).byte] =
      s.events ++ exchangeEvents (r, b) := List.append_assoc ..
  rw [step_cons rfl]
  simp only [served, ← hev]
  rfl

/-- The sequencer's step: the command the latches hold. -/
theorem step_sequencer (hb : s.status.busy = true) (hd : decode (latchedWord s) = .ok i)
    (ms : List Move) :
    step { s with moves := .sequencer :: ms } = exec i { s with moves := ms } := by
  have hd' : decode (latchedWord { s with moves := ms }) = .ok i := hd
  rw [step_cons rfl]
  simp [agentMove, sequencerTurn, hb, hd']

/-! ## The walk through the phase table -/

/-- Command i runs a transaction of shape x from state s; onEnd is what it makes of the outcome. -/
structure Transacts (i : Instr) (x : Shape) (onEnd : Option XFail → State → State) (s : State) :
    Prop where
  running : s.status.busy = true
  noWait : s.conv.valid = false
  latched : decode (latchedWord s) = .ok i
  body : ∀ u, u.status.busy = true → held u = false → u.xact = x → u.stage = s.stage →
    exec i u = withTransaction (transactionStep u) onEnd

/-- The transaction of shape x that began in s, in phase p after the exchanges es: hi and lo are the
bytes read last, xf is the failure kept. -/
def midway (x : Shape) (s : State) (p : Phase) (hi lo : Byte) (xf : Option XFail)
    (es : List (BusReq × Byte)) : State :=
  { s with
    xact := x, phase := p, dhi := hi, dlo := lo, xfail := xf, events := s.events ++ tradeEvents es }

/-- A transaction of shape x just begun in s. -/
def opened (x : Shape) (s : State) : State := post .start (midway x s .start s.dhi s.dlo none [])

/-- The exchanges es, each answer followed by a step of the sequencer, lead a transaction begun in s to
the request r of phase p, with hi, lo and xf as `midway` has them. -/
def Asks (x : Shape) (s : State) (es : List (BusReq × Byte)) (r : BusReq) (p : Phase) (hi lo : Byte)
    (xf : Option XFail) : Prop :=
  ∀ (k : Nat) (ms : List Move),
    core.run (2 * es.length + k) { opened x s with moves := answering (tradeBytes es) ++ ms } =
      core.run k { post r (midway x s p hi lo xf es) with moves := ms }

theorem asks_start (x : Shape) (s : State) : Asks x s [] .start .start s.dhi s.dlo none := by
  intro k ms
  rw [List.length_nil, Nat.mul_zero, Nat.zero_add]
  rfl

theorem tradeEvents_snoc (es : List (BusReq × Byte)) (e : BusReq × Byte) :
    tradeEvents (es ++ [e]) = tradeEvents es ++ exchangeEvents e := by
  simp [tradeEvents]

theorem answering_snoc (es : List (BusReq × Byte)) (e : BusReq × Byte) (ms : List Move) :
    answering (tradeBytes (es ++ [e])) ++ ms =
      answering (tradeBytes es) ++ .busAnswer e.2 :: .sequencer :: ms := by
  simp [answering, tradeBytes]

/-- A transaction whose last exchange the sequencer has not used yet, with the moves still to come. -/
def answered (x : Shape) (s : State) (p : Phase) (hi lo : Byte) (xf : Option XFail)
    (es : List (BusReq × Byte)) (e : BusReq × Byte) (ms : List Move) : State :=
  { midway x s p hi lo xf (es ++ [e]) with
    busReq := none, busAns := some (answerOf e.1 e.2), moves := ms }

theorem served_midway (x : Shape) (s : State) (p : Phase) (hi lo : Byte) (xf : Option XFail)
    (es : List (BusReq × Byte)) (e : BusReq × Byte) (ms : List Move) :
    { served e (midway x s p hi lo xf es) with moves := ms } =
      answered x s p hi lo xf es e ms := by
  simp only [served, answered, midway, tradeEvents_snoc, List.append_assoc]

section
variable {p : Phase} {hi lo : Byte} {xf : Option XFail} {es : List (BusReq × Byte)} {r : BusReq}
  {row : PhaseRow}

/-- An exchange takes two steps, the controller's answer and the command's use of it, which leads to t. -/
theorem Asks.run_exchange (h : Asks x s es r p hi lo xf) (T : Transacts i x onEnd s) {b : Byte}
    {ms : List Move} (k : Nat)
    (ht : withTransaction (transactionStep (answered x s p hi lo xf es (r, b) ms)) onEnd = .next t) :
    core.run (2 * (es ++ [(r, b)]).length + k)
        { opened x s with moves := answering (tradeBytes (es ++ [(r, b)])) ++ ms } =
      core.run k t := by
  have e : 2 * (es ++ [(r, b)]).length + k = 2 * es.length + (k + 1 + 1) := by
    rw [List.length_append, List.length_singleton]
    omega
  have hexec : exec i (answered x s p hi lo xf es (r, b) ms) = .next t :=
    (T.body (answered x s p hi lo xf es (r, b) ms) T.running (held_eq_false.2 ⟨rfl, T.noWait⟩)
      rfl rfl).trans ht
  have hstep : step (answered x s p hi lo xf es (r, b) (.sequencer :: ms)) = .next t :=
    (step_sequencer (s := answered x s p hi lo xf es (r, b) ms) T.running T.latched ms).trans hexec
  rw [answering_snoc, e, h, run_succ _ (step_busAnswer_post r b _ _), served_midway,
    run_succ k hstep]

/-- A step that goes on with the transaction leads to the next request. -/
theorem Asks.running {r' : BusReq} {p' : Phase} {hi' lo' : Byte} {xf' : Option XFail}
    (h : Asks x s es r p hi lo xf) (T : Transacts i x onEnd s) {b : Byte}
    (hu : ∀ ms, transactionStep (answered x s p hi lo xf es (r, b) ms) = .running
      { post r' (midway x s p' hi' lo' xf' (es ++ [(r, b)])) with moves := ms }) :
    Asks x s (es ++ [(r, b)]) r' p' hi' lo' xf' :=
  fun k ms => h.run_exchange T k (by rw [hu ms]; rfl)

/-- R90 and R93: from one request of a phase to the next, a READ byte being kept. -/
theorem Asks.request {hi' lo' : Byte} {r' : BusReq}
    (h : Asks x s es r p hi lo none) (T : Transacts i x onEnd s)
    (hrow : phaseRow (midway x s p hi lo none es) = some row) (j : Nat)
    (hr : row.requests[j]? = some r) (hr' : row.requests[j + 1]? = some r') (b : Byte)
    (hkept : ∀ ms, captureAnswer (answerOf r b) (answered x s p hi lo none es (r, b) ms) =
      answered x s p hi' lo' none es (r, b) ms) :
    Asks x s (es ++ [(r, b)]) r' p hi' lo' none := by
  refine h.running T fun ms => ?_
  rw [transactionStep_request (s := answered x s p hi lo none es (r, b) ms) hrow hr hr' rfl,
    hkept]
  rfl

/-- R84 and R85: a status byte that passes leads to the next phase. -/
theorem Asks.pass (h : Asks x s es .status p hi lo none) (T : Transacts i x onEnd s)
    (hrow : phaseRow (midway x s p hi lo none es) = some row) {b : Byte} (hb : b ∈ row.passes) :
    Asks x s (es ++ [(.status, b)]) row.nextRequest row.next hi lo none := by
  refine h.running T fun ms => ?_
  rw [transactionStep_check (s := answered x s p hi lo none es (.status, b) ms) hrow rfl,
    decide_eq_true hb]
  rfl

/-- R86: any other status byte leads to STOP, the failure being kept. -/
theorem Asks.fail (h : Asks x s es .status p hi lo none) (T : Transacts i x onEnd s)
    (hrow : phaseRow (midway x s p hi lo none es) = some row) {b : Byte} (hb : b ∉ row.passes) :
    Asks x s (es ++ [(.status, b)]) .stop .stop hi lo (some ⟨b, p, x⟩) := by
  refine h.running T fun ms => ?_
  rw [transactionStep_check (s := answered x s p hi lo none es (.status, b) ms) hrow rfl,
    decide_eq_false hb]
  rfl

/-- A transaction after its STOP has been answered, with the moves still to come. -/
def closed (s : State) (hi lo : Byte) (es : List (BusReq × Byte)) (ms : List Move) : State :=
  { s with
    xact := .none, phase := .stop, dhi := hi, dlo := lo, xfail := none, busReq := none,
    busAns := some (.done .stop), events := s.events ++ tradeEvents es, moves := ms }

/-- R91 and R92: the answered STOP ends the transaction, and the command goes on with its outcome. -/
theorem Asks.stop (h : Asks x s es .stop .stop hi lo xf)
    (T : Transacts i x onEnd s) (hx : x ≠ .none) (last : Byte) (k : Nat) (ms : List Move) :
    core.run (2 * (es ++ [(BusReq.stop, last)]).length + k)
        { opened x s with moves := answering (tradeBytes (es ++ [(BusReq.stop, last)])) ++ ms } =
      core.run k (onEnd xf (closed s hi lo (es ++ [(BusReq.stop, last)]) ms)) := by
  refine h.run_exchange T k ?_
  cases x with
  | none => exact absurd rfl hx
  | trig | rdpair => rfl

/-- The exchanges es lead a transaction begun in s to the STATUS request of phase p, whose answer must be
one of `pass`. -/
def AsksCheck (x : Shape) (s : State) (es : List (BusReq × Byte)) (p : Phase) (pass : List Byte)
    (hi lo : Byte) : Prop :=
  Asks x s es .status p hi lo none ∧
    ∃ row, phaseRow (midway x s p hi lo none es) = some row ∧ row.passes = pass

/-- R86: a check that fails leads to STOP. -/
theorem AsksCheck.fail {pass : List Byte} {b : Byte} (h : AsksCheck x s es p pass hi lo)
    (T : Transacts i x onEnd s) (hb : b ∉ pass) :
    Asks x s (es ++ [(.status, b)]) .stop .stop hi lo (some ⟨b, p, x⟩) := by
  obtain ⟨h, row, hrow, rfl⟩ := h
  exact h.fail T hrow hb

end

/-! ## The two shapes -/

/-- R91: a trigger whose answers pass comes to each of its four checks, and to its STOP. -/
theorem trigger_asks (T : Transacts i .trig onEnd s) {st0 : Byte}
    (h0 : st0 = s.cfg.stStart ∨ st0 = s.cfg.stRestart) (o : Nat → Byte) :
    let good := goodTrigger s.cfg s.tb st0 o
    (∀ n ph pass, (n, ph, pass) ∈ trigChecks s.cfg →
      AsksCheck .trig s (good.take n) ph pass s.dhi s.dlo) ∧
    Asks .trig s good .stop .stop s.dhi s.dlo none := by
  intro good
  have c1 : Asks .trig s (good.take 1) .status .start s.dhi s.dlo none :=
    (asks_start .trig s).request T rfl 0 rfl rfl (o 0) fun _ => rfl
  have c2 : Asks .trig s (good.take 3) .status .addrAck s.dhi s.dlo none :=
    (c1.pass T rfl (b := st0) (by simpa [midway] using h0)).request T rfl 0 rfl rfl (o 1) fun _ => rfl
  have c3 : Asks .trig s (good.take 5) .status .regAck s.dhi s.dlo none :=
    (c2.pass T rfl (.head _)).request T rfl 0 rfl rfl (o 2) fun _ => rfl
  have c4 : Asks .trig s (good.take 7) .status .dataAck s.dhi s.dlo none :=
    (c3.pass T rfl (.head _)).request T rfl 0 rfl rfl (o 3) fun _ => rfl
  refine ⟨fun n ph pass h => ?_, c4.pass T rfl (.head _)⟩
  simp only [trigChecks, List.mem_cons, Prod.mk.injEq, List.not_mem_nil, or_false] at h
  rcases h with ⟨rfl, rfl, rfl⟩ | ⟨rfl, rfl, rfl⟩ | ⟨rfl, rfl, rfl⟩ | ⟨rfl, rfl, rfl⟩
  exacts [⟨c1, _, rfl, rfl⟩, ⟨c2, _, rfl, rfl⟩, ⟨c3, _, rfl, rfl⟩, ⟨c4, _, rfl, rfl⟩]

/-- R92: a read whose answers pass comes to each of its seven checks, and to its STOP with the two READ
bytes kept. -/
theorem read_asks (T : Transacts i .rdpair onEnd s) (hi lo : Byte) (o : Nat → Byte) :
    let good := goodRead s.cfg s.ra s.ia hi lo o
    (∀ n ph pass, (n, ph, pass) ∈ readChecks s.cfg →
      ∃ hi lo, AsksCheck .rdpair s (good.take n) ph pass hi lo) ∧
    Asks .rdpair s good .stop .stop hi lo none := by
  intro good
  have c1 : Asks .rdpair s (good.take 1) .status .start s.dhi s.dlo none :=
    (asks_start .rdpair s).request T rfl 0 rfl rfl (o 0) fun _ => rfl
  have c2 : Asks .rdpair s (good.take 3) .status .addrAck s.dhi s.dlo none :=
    (c1.pass T rfl (.head _)).request T rfl 0 rfl rfl (o 1) fun _ => rfl
  have c3 : Asks .rdpair s (good.take 5) .status .regAck s.dhi s.dlo none :=
    (c2.pass T rfl (.head _)).request T rfl 0 rfl rfl (o 2) fun _ => rfl
  have c4 : Asks .rdpair s (good.take 7) .status .restart s.dhi s.dlo none :=
    (c3.pass T rfl (.head _)).request T rfl 0 rfl rfl (o 3) fun _ => rfl
  have c5 : Asks .rdpair s (good.take 9) .status .addrRAck s.dhi s.dlo none :=
    (c4.pass T rfl (.head _)).request T rfl 0 rfl rfl (o 4) fun _ => rfl
  have r6 : Asks .rdpair s (good.take 11) .read .readMsb s.dhi s.dlo none :=
    (c5.pass T rfl (.head _)).request T rfl 0 rfl rfl (o 5) fun _ => rfl
  have c6 : Asks .rdpair s (good.take 12) .status .readMsb hi s.dlo none :=
    r6.request T rfl 1 rfl rfl hi fun _ => rfl
  have s7 : Asks .rdpair s (good.take 14) (.send (loByte s.ia)) .readLsbNack hi s.dlo none :=
    (c6.pass T rfl (.head _)).request T rfl 0 rfl rfl (o 6) fun _ => rfl
  have r7 : Asks .rdpair s (good.take 15) .read .readLsbNack hi s.dlo none :=
    s7.request T rfl 1 rfl rfl (o 7) fun _ => rfl
  have c7 : Asks .rdpair s (good.take 16) .status .readLsbNack hi lo none :=
    r7.request T rfl 2 rfl rfl lo fun _ => rfl
  refine ⟨fun n ph pass h => ?_, c7.pass T rfl (.head _)⟩
  simp only [readChecks, List.mem_cons, Prod.mk.injEq, List.not_mem_nil, or_false] at h
  rcases h with ⟨rfl, rfl, rfl⟩ | ⟨rfl, rfl, rfl⟩ | ⟨rfl, rfl, rfl⟩ | ⟨rfl, rfl, rfl⟩ |
    ⟨rfl, rfl, rfl⟩ | ⟨rfl, rfl, rfl⟩ | ⟨rfl, rfl, rfl⟩
  exacts [⟨_, _, c1, _, rfl, rfl⟩, ⟨_, _, c2, _, rfl, rfl⟩, ⟨_, _, c3, _, rfl, rfl⟩,
    ⟨_, _, c4, _, rfl, rfl⟩, ⟨_, _, c5, _, rfl, rfl⟩, ⟨_, _, c6, _, rfl, rfl⟩,
    ⟨_, _, c7, _, rfl, rfl⟩]

end Sys2Proof.Machine
end

section
/-! PROOF. A whole TRIG and a whole RDPAIR (40_bus_transactions.md R98, R99): acceptance, the walk through
the phase table, and the completion with the transaction's outcome. -/

namespace Sys2Proof.Machine

variable {s : State} {i : Instr}

/-! ## From the command write to the first request -/

/-- The state in which a command just accepted begins (R53). -/
def started (i : Instr) (s : State) : State :=
  { s with
    status := { s.status with
      busy := true, done := false, reject := false, lastOp := i.op, err := .none, busStatus := 0,
      failPhase := .idle, failXact := .none }
    opl := i.op, bl := i.bOperand, hl := i.hOperand, stage := 0, idx := 0, ffail := false,
    events := s.events ++ [.cmdAccepted (encode i)] }

theorem accept_eq_started (hk : ¬ Lacks (encode i) s) (ho : i.op ≠ 0x4#4) :
    accept (encode i) s = started i s := by
  rw [accept_starts (legal_encode i) hk, startCommand_other (by simpa using ho)]
  simp [setBusy, accepted, emit, latch, clearRecord, started]

theorem step_issue (hb : s.status.busy = false) (hk : ¬ Lacks (encode i) s) (ho : i.op ≠ 0x4#4)
    (ms : List Move) :
    step { s with moves := issueMove (encode i) :: ms } = .next { started i s with moves := ms } :=
  (step_cmd_idle (s := { s with moves := issueMove (encode i) :: ms }) hb rfl).trans
    (congrArg _ (accept_eq_started (s := { s with moves := ms }) hk ho))

theorem decode_latched_started (i : Instr) (s : State) :
    decode (latchedWord (started i s)) = .ok i := decode_encode i

/-- A command that begins with a transaction makes its first request in the step after acceptance. -/
theorem run_issue {u : State} (hb : s.status.busy = false) (hk : ¬ Lacks (encode i) s)
    (ho : i.op ≠ 0x4#4) {ms : List Move}
    (hu : exec i { started i s with moves := ms } = .next u) (k : Nat) :
    core.run (k + 2) { s with moves := issueMove (encode i) :: .sequencer :: ms } =
      core.run k u := by
  rw [run_succ (k + 1) (step_issue hb hk ho _),
    run_succ k ((step_sequencer rfl (decode_latched_started i s) ms).trans hu)]

/-- The first step of command i after its acceptance in s opens a transaction of shape x in s'. -/
def Opens (i : Instr) (s : State) (x : Shape) (s' : State) : Prop :=
  ∀ ms, exec i { started i s with moves := ms } = .next { opened x s' with moves := ms }

/-- A whole command with one transaction, from its write to what it makes of the outcome. -/
theorem run_whole {s' : State} {x : Shape} {onEnd : Option XFail → State → State} {hi lo : Byte}
    {es : List (BusReq × Byte)} {xf : Option XFail} (hb : s.status.busy = false)
    (hk : ¬ Lacks (encode i) s) (ho : i.op ≠ 0x4#4) (hs' : Opens i s x s')
    (T : Transacts i x onEnd s') (hx : x ≠ .none) (h : Asks x s' es .stop .stop hi lo xf)
    (last : Byte) :
    core.run (2 * es.length + 4) { s with
        moves := issueMove (encode i) :: .sequencer :: answering (tradeBytes es ++ [last]) } =
      .next (onEnd xf (closed s' hi lo (es ++ [(.stop, last)]) [])) := by
  have e : tradeBytes es ++ [last] = tradeBytes (es ++ [(BusReq.stop, last)]) := by
    simp [tradeBytes]
  have hstop := h.stop T hx last 0 []
  rw [List.append_nil, List.length_append] at hstop
  rw [e]
  exact (run_issue hb hk ho (hs' _) _).trans hstop

theorem length_cutAt {es : List (BusReq × Byte)} {n : Nat} (h : n ≤ es.length) (b : Byte) :
    (cutAt es n b).length = n + 1 := by
  simp [cutAt, h]

/-! ## The completion -/

/-- The state after a whole command with one transaction, whose exchanges were es. -/
def finished (i : Instr) (s : State) (es : List (BusReq × Byte)) (e : ErrCode) (b : Byte) (p : Phase)
    (x : Shape) : State :=
  { s with
    moves := [], status := s.status.ended i.op e b p x, opl := i.op, bl := i.bOperand,
    hl := i.hOperand, phase := .idle, stage := 0, idx := 0, ffail := false,
    events := s.events ++ .cmdAccepted (encode i) :: tradeEvents es ++ [.cmdDone e] }

variable {ra tb hi lo : Byte} {ia : Half} {es : List (BusReq × Byte)}

theorem complete_closed (hq : Quiet s) :
    complete .none .idle
        (closed { started i s with ra := ra, ia := ia, tb := tb } hi lo es []) =
      { finished i s es .none 0 .idle .none with
        ra := ra, ia := ia, tb := tb, dhi := hi, dlo := lo } := by
  simp [complete, emit, closed, started, finished, Status.ended, hq.noRequest, hq.noAnswer,
    hq.noFailure, hq.noTransaction]

theorem raise_closed (hq : Quiet s) (b : Byte) (p : Phase) (x : Shape) :
    raiseError (.busPhase ⟨b, p, x⟩)
        (closed { started i s with ra := ra, ia := ia, tb := tb } hi lo es []) =
      { finished i s es .busPhase b p x with
        ra := ra, ia := ia, tb := tb, dhi := hi, dlo := lo } := by
  simp [raiseError, complete, emit, closed, started, finished, Status.ended, hq.noRequest,
    hq.noAnswer, hq.noFailure, hq.noTransaction]

/-! ## TRIG -/

variable {ctrl : Byte} {g : Half}

theorem exec_trig_begin (hb : s.status.busy = true) (hh : held s = false) (hx : s.xact = .none) :
    exec (.trig ctrl g) s = .next (startTrig s.bl s) :=
  (runCommand_body hb hh).trans (if_pos hx)

theorem exec_trig_inside (hb : s.status.busy = true) (hh : held s = false) (hx : s.xact = .trig) :
    exec (.trig ctrl g) s =
      withTransaction (transactionStep s) (onOutcome (complete .none .idle)) := by
  rw [transactionStep_trig hx]
  exact (runCommand_body hb hh).trans (if_neg (by simp [hx]))

theorem startTrig_eq_opened (tb : Byte) (s : State) :
    startTrig tb s = opened .trig { s with tb := tb } := by
  simp [opened, midway, startTrig, enterPhase, tradeEvents]

theorem opens_trig (hq : Quiet s) :
    Opens (.trig ctrl g) s .trig { started (.trig ctrl g) s with tb := ctrl } := fun ms =>
  (exec_trig_begin (s := { started (.trig ctrl g) s with moves := ms }) rfl
    (held_eq_false.2 ⟨hq.noRequest, hq.noWait⟩) hq.noTransaction).trans
    (congrArg _ (startTrig_eq_opened _ _))

theorem transacts_trig (hq : Quiet s) :
    Transacts (.trig ctrl g) .trig (onOutcome (complete .none .idle))
      { started (.trig ctrl g) s with tb := ctrl } :=
  ⟨rfl, hq.noWait, decode_latched_started _ s, fun _ hb hh hx _ => exec_trig_inside hb hh hx⟩

theorem not_lacks_trig : ¬ Lacks (encode (.trig ctrl g)) s := by
  simp [Lacks, Instr.op, needsCal, needsB5]

/-- A whole TRIG, by the walk of its trigger. -/
theorem run_trig {xf : Option XFail} (hb : s.status.busy = false) (hq : Quiet s)
    (h : Asks .trig { started (.trig ctrl g) s with tb := ctrl } es .stop .stop hi lo xf)
    (last : Byte) :
    core.run (2 * es.length + 4) { s with
        moves := issueMove (encode (.trig ctrl g)) :: .sequencer ::
          answering (tradeBytes es ++ [last]) } =
      .next (onOutcome (complete .none .idle) xf
        (closed { started (.trig ctrl g) s with tb := ctrl } hi lo (es ++ [(.stop, last)]) [])) :=
  run_whole hb not_lacks_trig (by simp [Instr.op]) (opens_trig hq) (transacts_trig hq) (by decide) h
    last

theorem trigChecks_lt (c : Config) : ∀ e ∈ trigChecks c, e.1 < 8 := by
  simp [trigChecks]

/-- Settles O25: the walk of the trigger comes to STOP past its four checks or by the first that fails
(`trigger_asks`), and the answered STOP completes the command (`run_trig`). -/
theorem trigRun : Obligations.TrigRun := by
  intro s ctrl g st0 o last hb hq h0 start finish good
  obtain ⟨hchecks, hstop⟩ := trigger_asks (transacts_trig (ctrl := ctrl) (g := g) hq) h0 o
  refine ⟨?_, fun n ph pass b hn hpass => ?_⟩
  · refine ⟨_, run_trig hb hq hstop last, ?_⟩
    rw [onOutcome_ok, complete_closed hq]
    rfl
  · have hfail := (hchecks n ph pass hn).fail (transacts_trig hq) hpass
    have hlen : (cutAt good n b).length = n + 1 := length_cutAt (trigChecks_lt _ _ hn).le b
    refine ⟨_, hlen ▸ run_trig hb hq hfail last, ?_⟩
    rw [onOutcome_fail, raise_closed hq]
    rfl

/-! ## RDPAIR -/

theorem exec_rdpair_begin (hb : s.status.busy = true) (hh : held s = false)
    (hx : s.xact = .none) : exec (.rdpair ra ia) s = .next (startRead s.bl s.hl s) :=
  (runCommand_body hb hh).trans (if_pos hx)

theorem exec_rdpair_inside (hb : s.status.busy = true) (hh : held s = false)
    (hx : s.xact = .rdpair) :
    exec (.rdpair ra ia) s = withTransaction (transactionStep s) (onOutcome rdpairDone) := by
  rw [transactionStep_read hx]
  exact (runCommand_body hb hh).trans (if_neg (by simp [hx]))

theorem startRead_eq_opened (ra : Byte) (ia : Half) (s : State) :
    startRead ra ia s = opened .rdpair { s with ra := ra, ia := ia } := by
  simp [opened, midway, startRead, enterPhase, tradeEvents]

theorem opens_rdpair (hq : Quiet s) :
    Opens (.rdpair ra ia) s .rdpair { started (.rdpair ra ia) s with ra := ra, ia := ia } :=
  fun ms =>
    (exec_rdpair_begin (s := { started (.rdpair ra ia) s with moves := ms }) rfl
      (held_eq_false.2 ⟨hq.noRequest, hq.noWait⟩) hq.noTransaction).trans
      (congrArg _ (startRead_eq_opened _ _ _))

theorem transacts_rdpair (hq : Quiet s) :
    Transacts (.rdpair ra ia) .rdpair (onOutcome rdpairDone)
      { started (.rdpair ra ia) s with ra := ra, ia := ia } :=
  ⟨rfl, hq.noWait, decode_latched_started _ s, fun _ hb hh hx _ => exec_rdpair_inside hb hh hx⟩

theorem not_lacks_rdpair : ¬ Lacks (encode (.rdpair ra ia)) s := by
  simp [Lacks, Instr.op, needsCal, needsB5]

/-- A whole RDPAIR, by the walk of its read. -/
theorem run_rdpair {xf : Option XFail} (hb : s.status.busy = false) (hq : Quiet s)
    (h : Asks .rdpair { started (.rdpair ra ia) s with ra := ra, ia := ia } es .stop .stop hi lo xf)
    (last : Byte) :
    core.run (2 * es.length + 4) { s with
        moves := issueMove (encode (.rdpair ra ia)) :: .sequencer ::
          answering (tradeBytes es ++ [last]) } =
      .next (onOutcome rdpairDone xf
        (closed { started (.rdpair ra ia) s with ra := ra, ia := ia } hi lo
          (es ++ [(.stop, last)]) [])) :=
  run_whole hb not_lacks_rdpair (by simp [Instr.op]) (opens_rdpair hq) (transacts_rdpair hq)
    (by decide) h last

/-- R99: after its last STOP a read that passed writes RESULT, and the command completes. -/
theorem rdpairDone_closed (s : State) (hi lo : Byte) (es : List (BusReq × Byte)) (ms : List Move) :
    rdpairDone (closed s hi lo es ms) =
      { complete .none .idle (closed s hi lo es ms) with result := hi ++ lo } := rfl

theorem readChecks_lt (c : Config) : ∀ e ∈ readChecks c, e.1 < 17 := by
  simp [readChecks]

/-- Settles O26: the walk of the read comes to STOP past its seven checks or by the first that fails
(`read_asks`), and the answered STOP completes the command (`run_rdpair`). -/
theorem rdpairRun : Obligations.RdpairRun := by
  intro s ra ia hi lo o last hb hq start finish good
  obtain ⟨hchecks, hstop⟩ := read_asks (transacts_rdpair (ra := ra) (ia := ia) hq) hi lo o
  refine ⟨?_, fun n ph pass b hn hpass => ?_⟩
  · refine ⟨_, run_rdpair hb hq hstop last, ?_⟩
    rw [onOutcome_ok, rdpairDone_closed, complete_closed hq]
    rfl
  · obtain ⟨hi', lo', hcheck⟩ := hchecks n ph pass hn
    have hfail := hcheck.fail (transacts_rdpair hq) hpass
    have hlen : (cutAt good n b).length = n + 1 := length_cutAt (readChecks_lt _ _ hn).le b
    refine ⟨_, hlen ▸ run_rdpair hb hq hfail last, ?_⟩
    rw [onOutcome_fail, raise_closed hq]
    rfl

end Sys2Proof.Machine
end

section
/-! PROOF. The 32-bit operators of 41_calibration_compensation.md R102 to R105 as functions of the integers,
the pressure quotient (R118), and what the two formulas depend on (R121). -/

namespace Sys2Proof.Machine

variable {c c' : Config} {cal : Vector Half 11} {raw : Half} {b5 : Word}

/-! ## Sums, differences and products (R102) -/

theorem add_eq_ofNat (a b : Word) : a + b = BitVec.ofNat 32 (a.toNat + b.toNat) := by
  simp [BitVec.ofNat_add]

theorem add_eq_ofInt (a b : Word) : a + b = BitVec.ofInt 32 (a.toInt + b.toInt) := by
  simp [BitVec.ofInt_add]

/-- A difference is the sum with the negated subtrahend, under either reading of the two words. -/
theorem sub_eq_ofInt (x y : Int) :
    BitVec.ofInt 32 x - BitVec.ofInt 32 y = BitVec.ofInt 32 (x - y) := by
  rw [Int.sub_eq_add_neg, BitVec.ofInt_add, BitVec.ofInt_neg, BitVec.sub_eq_add_neg]

theorem sub_eq_ofInt_toNat (a b : Word) :
    a - b = BitVec.ofInt 32 ((a.toNat : Int) - b.toNat) := by
  simp [← sub_eq_ofInt]

theorem sub_eq_ofInt_toInt (a b : Word) : a - b = BitVec.ofInt 32 (a.toInt - b.toInt) := by
  simp [← sub_eq_ofInt]

theorem mul_eq_ofNat (a b : Word) : a * b = BitVec.ofNat 32 (a.toNat * b.toNat) := by
  simp [BitVec.ofNat_mul]

theorem mul_eq_ofInt (a b : Word) : a * b = BitVec.ofInt 32 (a.toInt * b.toInt) := by
  simp [BitVec.ofInt_mul]

/-! ## Shifts (R103) -/

theorem shl_eq (a : Word) (n : Nat) : shl a n = BitVec.ofNat 32 (a.toNat * 2 ^ n) := by
  simp [shl, BitVec.toNat_eq, Nat.shiftLeft_eq]

theorem asr_eq (a : Word) (n : Nat) : asr a n = BitVec.ofInt 32 (a.toInt / 2 ^ n) := by
  rw [asr, BitVec.sshiftRight, Int.shiftRight_eq_div_pow]
  norm_cast

theorem lsr_toNat (a : Word) (n : Nat) : (lsr a n).toNat = a.toNat / 2 ^ n := by
  rw [lsr, BitVec.toNat_ushiftRight, Nat.shiftRight_eq_div_pow]

theorem lsr_eq (a : Word) (n : Nat) : lsr a n = BitVec.ofNat 32 (a.toNat / 2 ^ n) := by
  rw [← lsr_toNat, BitVec.ofNat_toNat, BitVec.setWidth_eq]

/-! ## Divisions and comparison (R104, R105) -/

/-- Division that truncates toward zero divides the magnitudes and multiplies the signs. -/
theorem tdiv_eq_sign_mul_natAbs (x y : Int) :
    x.tdiv y = x.sign * y.sign * ((x.natAbs / y.natAbs : Nat) : Int) := by
  rw [← Int.sign_mul_natAbs (x.tdiv y), Int.natAbs_tdiv, Int.sign_tdiv]
  split
  case isTrue h => simp [Nat.div_eq_of_lt h]
  case isFalse => rfl

theorem divS_eq (a b : Word) : divS a b = BitVec.ofInt 32
    (a.toInt.sign * b.toInt.sign * ((a.toInt.natAbs / b.toInt.natAbs : Nat) : Int)) := by
  rw [← tdiv_eq_sign_mul_natAbs]
  exact BitVec.eq_of_toInt_eq (by rw [divS, BitVec.toInt_sdiv, BitVec.toInt_ofInt])

theorem divU_toNat (a b : Word) : (divU a b).toNat = a.toNat / b.toNat := BitVec.toNat_udiv

theorem divU_eq (a b : Word) : divU a b = BitVec.ofNat 32 (a.toNat / b.toNat) := by
  rw [← divU_toNat, BitVec.ofNat_toNat, BitVec.setWidth_eq]

theorem ltU_iff (a b : Word) : ltU a b = true ↔ a.toNat < b.toNat := decide_eq_true_iff

/-! ## Zero divisors (R131) -/

theorem tempf_eq_none : tempf c cal raw = none ↔ tempDen c cal raw = 0 := by
  simp [tempf]

theorem presf_eq_none : presf c cal b5 raw = none ↔ pressB4 c cal b5 = 0 := by
  simp [presf]

/-- Settles O32: each operator is the lemma above that names it. -/
theorem arithmeticOperators : Obligations.ArithmeticOperators := by
  refine ⟨fun a b => ?_, fun a n _ => ?_, fun a b _ => ?_, ltU_iff, fun c cal raw b5 => ?_⟩
  · exact ⟨add_eq_ofNat a b, add_eq_ofInt a b, sub_eq_ofInt_toNat a b, sub_eq_ofInt_toInt a b,
      mul_eq_ofNat a b, mul_eq_ofInt a b⟩
  · exact ⟨shl_eq a n, asr_eq a n, lsr_eq a n⟩
  · exact ⟨divS_eq a b, divU_eq a b⟩
  · exact ⟨tempf_eq_none, presf_eq_none⟩

/-! ## The pressure quotient (R118) -/

theorem shl_toNat (a : Word) (n : Nat) : (shl a n).toNat = a.toNat * 2 ^ n % 2 ^ 32 := by
  rw [shl_eq, BitVec.toNat_ofNat]

/-- Below 2^31 doubling b7 does not wrap, so the quotient is that of the doubled value. -/
theorem pressQuotient_below {b7 : Word} (h : b7.toNat < 0x80000000) (b4 : Word) :
    (pressQuotient b7 b4).toNat = b7.toNat * 2 / b4.toNat := by
  rw [pressQuotient, if_pos ((ltU_iff _ _).2 h), divU_toNat, shl_toNat, pow_one,
    Nat.mod_eq_of_lt (by omega)]

theorem pressQuotient_above {b7 : Word} (h : 0x80000000 ≤ b7.toNat) (b4 : Word) :
    (pressQuotient b7 b4).toNat = b7.toNat / b4.toNat * 2 % 2 ^ 32 := by
  rw [pressQuotient, if_neg (mt (ltU_iff _ _).1 h.not_gt), shl_toNat, divU_toNat, pow_one]

/-- A quotient of an even number below 2^32 that reaches 2^31 has the divisor 1. -/
theorem eq_one_of_le_div {m n : Nat} (hm : m < 2 ^ 31) (hn : n ≠ 0) (h : 2 ^ 31 ≤ m * 2 / n) :
    n = 1 ∧ 2 ^ 30 ≤ m := by
  have h' : 2 ^ 31 * n ≤ m * 2 := (Nat.le_div_iff_mul_le (Nat.pos_of_ne_zero hn)).1 h
  omega

/-- Settles O36: the two branches of the quotient, whose bit 31 is the sign of p. -/
theorem pressureQuotientBits : Obligations.PressureQuotientBits := by
  intro b7 b4 hb4
  refine ⟨fun h => pressQuotient_below h b4, fun h => pressQuotient_above h b4, fun h => ?_,
    fun h hq => ?_⟩
  · rw [BitVec.toInt_neg_iff]
    omega
  · rw [pressQuotient_below h] at hq
    exact eq_one_of_le_div h (mt (BitVec.eq_of_toNat_eq (y := 0)) hb4) hq

/-! ## What the formulas depend on (R121) -/

theorem cv_congr (h : c.calSigned = c'.calSigned) : cv c = cv c' := by
  funext cal i
  rw [cv, cv, h]

theorem upTerm_congr (h : c.upSource = c'.upSource) : upTerm c = upTerm c' := by
  funext raw
  rw [upTerm, upTerm, h]

theorem tempf_congr (h : cv c = cv c') : tempf c = tempf c' := by
  funext cal raw
  unfold tempf tempDen tempX1
  rw [h]

theorem presf_congr (h : cv c = cv c') (hu : upTerm c = upTerm c') : presf c = presf c' := by
  funext cal b5 raw
  unfold presf pressB7 pressB4 pressB3
  rw [h, hu]

/-- Settles O37: both formulas read the configuration through `cv` and `upTerm` alone. -/
theorem formulasArePure : Obligations.FormulasArePure := by
  intro c c' cal raw b5 h
  refine ⟨?_, fun hu => ?_⟩
  · rw [tempf_congr (cv_congr h)]
  · rw [presf_congr (cv_congr h) (upTerm_congr hu)]

end Sys2Proof.Machine
end

section
/-! PROOF. B5 and the record of calibration loads in the history (`loadLog`, R109): what the bus operations,
a completion and the bodies of the commands leave of them, and what writes B5 (R115). -/

namespace Sys2Proof.Machine

variable {s t u : State} {i : Instr}

/-! ## Steps that load nothing -/

theorem loadLog_snoc (es : List Event) (e : Event) :
    loadLog (es ++ [e]) = (loadLog es).next e := by
  simp [loadLog]

/-- A completion ends a load only if one is under way. -/
theorem loadLog_done {es : List Event} (c : ErrCode) (h : (loadLog es).loading = false) :
    loadLog (es ++ [.cmdDone c]) = loadLog es := by
  rw [loadLog_snoc]
  exact if_neg (by simp [h])

/-- From s to t the table, CAL_VALID and the latched OP are the same, and so is the record of loads if no
load is under way. -/
structure LeavesTable (s t : State) : Prop where
  cal : t.cal = s.cal
  calValid : t.status.calValid = s.status.calValid
  opl : t.opl = s.opl
  log : (loadLog s.events).loading = false → loadLog t.events = loadLog s.events

/-- From s to t the table is left, and B5 with B5_VALID too. -/
structure LeavesB5 (s t : State) : Prop extends LeavesTable s t where
  b5 : t.b5 = s.b5
  b5Valid : t.status.b5Valid = s.status.b5Valid

theorem LeavesB5.refl (s : State) : LeavesB5 s s := ⟨⟨rfl, rfl, rfl, fun _ => rfl⟩, rfl, rfl⟩

theorem LeavesTable.trans (h : LeavesTable s t) (k : LeavesTable t u) : LeavesTable s u where
  cal := k.cal.trans h.cal
  calValid := k.calValid.trans h.calValid
  opl := k.opl.trans h.opl
  log hl := by rw [k.log (by rw [h.log hl, hl]), h.log hl]

theorem LeavesB5.trans (h : LeavesB5 s t) (k : LeavesB5 t u) : LeavesB5 s u where
  toLeavesTable := h.toLeavesTable.trans k.toLeavesTable
  b5 := k.b5.trans h.b5
  b5Valid := k.b5Valid.trans h.b5Valid

/-! ## The shared operations -/

theorem leavesB5_post (r : BusReq) (s : State) : LeavesB5 s (post r s) :=
  ⟨⟨rfl, rfl, rfl, fun _ => loadLog_snoc _ _⟩, rfl, rfl⟩

theorem leavesB5_startTrig (tb : Byte) (s : State) : LeavesB5 s (startTrig tb s) :=
  { leavesB5_post .start s with }

theorem leavesB5_startRead (ra : Byte) (ia : Half) (s : State) : LeavesB5 s (startRead ra ia s) :=
  { leavesB5_post .start s with }

theorem leavesB5_complete (c : ErrCode) (p : Phase) (s : State) : LeavesB5 s (complete c p s) :=
  ⟨⟨rfl, rfl, rfl, loadLog_done c⟩, rfl, rfl⟩

theorem leavesB5_raiseError (e : Raised) (s : State) : LeavesB5 s (raiseError e s) := by
  cases e <;> exact { leavesB5_complete _ .idle s with }

/-- A step inside a transaction leaves what its command leaves at the transaction's end. -/
theorem leavesB5_withTransaction {x : XStep} {k : Option XFail → State → State}
    (hr : ∀ u, x = .running u → LeavesB5 s u) (he : ∀ f u, x = .ended f u → LeavesB5 s u)
    (hk : ∀ f u, LeavesB5 u (k f u)) (h : withTransaction x k = .next t) : LeavesB5 s t := by
  rcases withTransaction_next h with hx | ⟨f, u, hx, rfl⟩
  · exact hr t hx
  · exact (he f u hx).trans (hk f u)

theorem leavesB5_trig {k : Option XFail → State → State} (hk : ∀ f u, LeavesB5 u (k f u))
    (h : withTransaction (trigStep s) k = .next t) : LeavesB5 s t := by
  refine leavesB5_withTransaction (fun u hu => ?_) (fun f u hu => ?_) hk h
  · obtain ⟨p, r, xf, rfl⟩ := trigStep_running hu
    exact { leavesB5_post r s with }
  · obtain ⟨-, -, -, rfl⟩ := trigStep_ended hu
    exact { LeavesB5.refl s with }

theorem leavesB5_read {k : Option XFail → State → State} (hk : ∀ f u, LeavesB5 u (k f u))
    (h : withTransaction (readStep s) k = .next t) : LeavesB5 s t := by
  refine leavesB5_withTransaction (fun u hu => ?_) (fun f u hu => ?_) hk h
  · obtain ⟨p, r, xf, hi, lo, rfl⟩ := readStep_running hu
    exact { leavesB5_post r s with }
  · obtain ⟨-, -, -, rfl⟩ := readStep_ended hu
    exact { LeavesB5.refl s with }

theorem leavesB5_onOutcome {ok : State → State} (hok : ∀ u, LeavesB5 u (ok u)) (f : Option XFail)
    (u : State) : LeavesB5 u (onOutcome ok f u) := by
  cases f with
  | none => exact hok u
  | some f => exact leavesB5_raiseError (.busPhase f) u

theorem leavesB5_convRequest (m : ConvMode) (s : State) : LeavesB5 s (convRequest m s) :=
  ⟨⟨rfl, rfl, rfl, fun _ => loadLog_snoc _ _⟩, rfl, rfl⟩

theorem leavesB5_rdpairDone (s : State) : LeavesB5 s (rdpairDone s) :=
  { leavesB5_complete .none .idle s with }

/-! ## The two compute steps -/

theorem leavesB5_computePress (raw : Half) (s : State) : LeavesB5 s (computePress raw s) := by
  cases h : presf s.cfg s.cal s.b5 raw with
  | none =>
    rw [computePress_divZero h]
    exact leavesB5_raiseError _ s
  | some p =>
    rw [computePress_result h]
    refine LeavesB5.trans (t := emit (.pressResult p) { s with press := p }) ?_
      (leavesB5_complete _ _ _)
    exact ⟨⟨rfl, rfl, rfl, fun _ => loadLog_snoc _ _⟩, rfl, rfl⟩

/-- R115: a temperature computation writes B5, and leaves the table. -/
theorem leavesTable_computeTemp (raw : Half) (s : State) : LeavesTable s (computeTemp raw s) := by
  cases h : tempf s.cfg s.cal raw with
  | none =>
    rw [computeTemp_divZero h]
    exact (leavesB5_raiseError _ s).toLeavesTable
  | some r =>
    rw [computeTemp_result h]
    refine LeavesTable.trans ?_ (leavesB5_complete _ _ _).toLeavesTable
    exact ⟨rfl, rfl, rfl, fun _ => loadLog_snoc _ _⟩

/-! ## The bodies of the commands -/

theorem leavesB5_initBody (h : initBody s = .next t) : LeavesB5 s t := by
  unfold initBody at h
  split at h <;> cases h
  · exact { leavesB5_post _ s with }
  · exact leavesB5_complete _ _ s

theorem leavesB5_trigBody (h : trigBody s = .next t) : LeavesB5 s t := by
  unfold trigBody at h
  split at h
  · cases h
    exact leavesB5_startTrig _ s
  · exact leavesB5_trig (leavesB5_onOutcome (leavesB5_complete _ _)) h

theorem leavesB5_rdpairBody (h : rdpairBody s = .next t) : LeavesB5 s t := by
  unfold rdpairBody at h
  split at h
  · cases h
    exact leavesB5_startRead _ _ s
  · exact leavesB5_read (leavesB5_onOutcome leavesB5_rdpairDone) h

/-- CTEMP and CPRES enter COMPUTE and then compute. -/
theorem computeBody_next {compute : Half → State → State} (h : computeBody compute s = .next t) :
    LeavesB5 s t ∨ t = compute s.hl s := by
  unfold computeBody at h
  split at h <;> cases h
  · exact .inl { LeavesB5.refl s with }
  · exact .inr rfl

/-- RDTEMP and RDPRES measure and then compute. -/
theorem compositeBody_next {ctrl : Byte} {mode : ConvMode} {compute : Half → State → State}
    (h : compositeBody ctrl mode compute s = .next t) :
    LeavesB5 s t ∨ t = compute s.rawl s := by
  unfold compositeBody at h
  split at h
  · cases h
    exact .inl { LeavesB5.refl s with }
  split at h
  · left
    split at h
    · cases h
      exact leavesB5_startTrig _ s
    · refine leavesB5_trig (leavesB5_onOutcome fun u => ?_) h
      exact { leavesB5_convRequest mode u with }
  split at h
  · cases h
    exact .inl { LeavesB5.refl s with }
  split at h
  · left
    split at h
    · cases h
      exact leavesB5_startRead _ _ s
    · refine leavesB5_read (leavesB5_onOutcome fun u => ?_) h
      exact { LeavesB5.refl u with }
  split at h <;> cases h
  exact .inr rfl

/-- R115: of the running commands but LDCAL only CTEMP and RDTEMP write B5, in their compute step. -/
theorem bodyOfOp_next (ho : i.op ≠ 0x4#4) (h : bodyOfOp i.op s = .next t) :
    LeavesB5 s t ∨
      ((∃ r g, i = .ctemp r g) ∨ ∃ g h, i = .rdtemp g h) ∧ ∃ raw, t = computeTemp raw s := by
  cases i with
  | init _ _ _ => exact .inl (leavesB5_initBody h)
  | trig _ _ => exact .inl (leavesB5_trigBody h)
  | rdpair _ _ => exact .inl (leavesB5_rdpairBody h)
  | ldcal _ _ => exact absurd rfl ho
  | ctemp r g => exact (computeBody_next h).imp_right fun e => ⟨.inl ⟨r, g, rfl⟩, _, e⟩
  | cpres _ _ =>
    rcases computeBody_next h with k | rfl
    · exact .inl k
    · exact .inl (leavesB5_computePress _ s)
  | rdtemp g h' => exact (compositeBody_next h).imp_right fun e => ⟨.inr ⟨g, h', rfl⟩, _, e⟩
  | rdpres _ _ =>
    rcases compositeBody_next h with k | rfl
    · exact .inl k
    · exact .inl (leavesB5_computePress _ s)

theorem leavesTable_bodyOfOp (ho : i.op ≠ 0x4#4) (h : bodyOfOp i.op s = .next t) :
    LeavesTable s t := by
  rcases bodyOfOp_next ho h with k | ⟨-, raw, rfl⟩
  · exact k.toLeavesTable
  · exact leavesTable_computeTemp raw s

/-! ## B5 in an LDCAL and at an acceptance -/

theorem ldcalFinish_b5 (s : State) : (ldcalFinish s).b5 = s.b5 := by
  unfold ldcalFinish
  split
  · rfl
  · split <;> rfl

theorem calReadEnd_b5 (f : Option XFail) (s : State) : (calReadEnd f s).b5 = s.b5 := by
  obtain ⟨cal, cs, ff, st, p, x, es, e⟩ := calReadOutcome_rest f s
  rw [calReadEnd, e, calReadNext]
  split
  · rfl
  · exact ldcalFinish_b5 _

theorem ldcalBody_b5 (h : ldcalBody s = .next t) : t.b5 = s.b5 := by
  unfold ldcalBody at h
  split at h
  · cases h
    rfl
  · rcases withTransaction_next h with hx | ⟨f, u, hx, rfl⟩
    · obtain ⟨_, _, _, _, _, rfl⟩ := readStep_running hx
      rfl
    · obtain ⟨-, -, -, rfl⟩ := readStep_ended hx
      exact calReadEnd_b5 f _

theorem accept_b5 (v : Word) (s : State) : (accept v s).b5 = s.b5 := by
  rcases accept_cases v s with ⟨-, e⟩ | ⟨-, -, -, e⟩ | ⟨-, -, -, e⟩ | ⟨-, -, -, e⟩ <;> rw [e]
  · rfl
  · rfl
  · rfl
  · unfold startCommand
    split <;> rfl

/-- R115: of the acceptances only that of an LDCAL changes B5_VALID. -/
theorem accept_b5Valid {v : Word} (s : State) (ho : opField v ≠ 0x4#4) :
    (accept v s).status.b5Valid = s.status.b5Valid := by
  rcases accept_cases v s with ⟨-, e⟩ | ⟨-, -, -, e⟩ | ⟨-, -, -, e⟩ | ⟨-, -, -, e⟩ <;> rw [e]
  · rfl
  · rfl
  · rfl
  · rw [startCommand_other (s := accepted v s) ho]
    rfl

theorem accept_ldcal_b5Valid (g : Byte) (h : Half) (s : State) :
    (accept (encode (.ldcal g h)) s).status.b5Valid = false := by
  have ho : opField (encode (.ldcal g h)) = 0x4#4 := by simp [Instr.op]
  rw [accept_starts (legal_encode _) (not_lacks_ldcal ho),
    startCommand_ldcal (s := accepted (encode (.ldcal g h)) s) ho]
  rfl

/-! ## The obligation -/

theorem eq_ldcal_of_op (h : i.op = 0x4#4) : ∃ g h, i = .ldcal g h := by
  cases i <;> cases h
  exact ⟨_, _, rfl⟩

/-- R114 and R125: the compute step of CTEMP and of RDTEMP. -/
theorem exec_computeTemp {raw : Half} (hb : s.status.busy = true) (hh : held s = false)
    (hi : (∃ g, i = .ctemp raw g) ∧ s.hl = raw ∧ s.phase = .compute ∨
      (∃ g h, i = .rdtemp g h) ∧ s.rawl = raw ∧ s.stage = 4) :
    exec i s = .next (computeTemp raw s) := by
  rw [exec_eq_runCommand, runCommand_body hb hh]
  rcases hi with ⟨⟨g, rfl⟩, rfl, hp⟩ | ⟨⟨g, h, rfl⟩, rfl, hs⟩
  · simp [bodyOfOp, Instr.op, computeBody, hp]
  · simp [bodyOfOp, Instr.op, compositeBody, hs]

/-- R149: a reset, as a step of the whole. -/
theorem step_reset (s : State) (ms : List Move) :
    step { s with moves := .rst :: ms } = .next (resetMove { s with moves := ms }) := by
  rw [step_cons rfl]
  rfl

/-- R115: what can change B5 or B5_VALID in the step of a command. -/
theorem exec_b5 (h : exec i s = .next t) :
    (t.b5 = s.b5 ∧ (t.status.b5Valid = s.status.b5Valid ∨ ∃ g h, i = .ldcal g h)) ∨
      (∃ r g, i = .ctemp r g) ∨ ∃ g h, i = .rdtemp g h := by
  rw [exec_eq_runCommand] at h
  by_cases ho : i.op = 0x4#4
  · refine .inl ⟨?_, .inr (eq_ldcal_of_op ho)⟩
    rcases runCommand_next h with ⟨-, rfl⟩ | ⟨-, -, rfl⟩ | ⟨-, -, hbody⟩
    · exact accept_b5 _ s
    · rfl
    · rw [ho] at hbody
      exact ldcalBody_b5 hbody
  · rcases runCommand_next h with ⟨-, rfl⟩ | ⟨-, -, rfl⟩ | ⟨-, -, hbody⟩
    · exact .inl ⟨accept_b5 _ s, .inl (accept_b5Valid s (by simpa using ho))⟩
    · exact .inl ⟨rfl, .inl rfl⟩
    · rcases bodyOfOp_next ho hbody with k | ⟨hi, -⟩
      · exact .inl ⟨k.b5, .inl k.b5Valid⟩
      · exact .inr hi

/-- Settles O54: the compute step by the formula's two ends, the acceptance of an LDCAL, the reset, and
`exec_b5` for all else. -/
theorem b5Rule : Obligations.B5Rule := by
  refine ⟨fun i s raw hb hh hi => ?_, fun g h s hb => ?_, fun s => ?_, fun i s t h => ?_⟩
  · rw [exec_computeTemp hb hh hi]
    refine ⟨fun x b hr => ⟨_, rfl, ?_⟩, fun hr => ⟨_, rfl, ?_⟩⟩
    · rw [computeTemp_result hr]
      exact ⟨rfl, rfl⟩
    · rw [computeTemp_divZero hr]
      exact ⟨rfl, rfl, rfl⟩
  · exact ⟨_, exec_idle _ hb, accept_b5 _ s, accept_ldcal_b5Valid g h s⟩
  · exact ⟨_, step_reset s [], rfl, rfl⟩
  · rcases exec_b5 h with ⟨h5, hv | hl⟩ | hi
    · exact ⟨fun hne => absurd h5 hne, fun hne => absurd hv hne⟩
    · exact ⟨fun hne => absurd h5 hne, fun _ => .inr (.inr hl)⟩
    · exact ⟨fun _ => hi, fun _ => hi.imp_right .inl⟩

end Sys2Proof.Machine
end

section
/-! PROOF. CAL_VALID and the record of calibration loads (R109): the record agrees with the state at reset, at
every acceptance (R53), through each of the eleven reads of an LDCAL (R107) and at its completion (R108). -/

namespace Sys2Proof.Machine

variable {s t : State} {i : Instr} {v : Word} {cal : Vector Half 11} {readFail : BitVec 11}
  {reads : List (BitVec 4 × CalRead)} {k : BitVec 4} {l : LoadLog} {n : Nat}

theorem badWord_eq_false (v : Half) : badWord v = false ↔ v ≠ 0x0000#16 ∧ v ≠ 0xFFFF#16 := by
  simp [badWord]

/-! ## The reads of a load -/

theorem length_tableReads (cal : Vector Half 11) : (tableReads cal).length = 11 := by
  simp [tableReads]

theorem tableReads_get (cal : Vector Half 11) (j : Fin 11) :
    (tableReads cal)[j.val]? = some (BitVec.ofNat 4 j.val, .ok cal[j]) := by
  simp [tableReads]

/-- The first n reads of an LDCAL, in index order: those not in READ_FAIL gave the words of the table. -/
structure ReadsUpTo (n : Nat) (cal : Vector Half 11) (readFail : BitVec 11)
    (reads : List (BitVec 4 × CalRead)) : Prop where
  length : reads.length = n
  entry : ∀ j : Fin 11, j.val < n → ∃ r, reads[j.val]? = some (BitVec.ofNat 4 j.val, r) ∧
    (readFail.getLsbD j.val = false ↔ r = .ok cal[j])

theorem readsUpTo_nil (cal : Vector Half 11) (readFail : BitVec 11) :
    ReadsUpTo 0 cal readFail [] := ⟨rfl, fun _ hj => absurd hj (Nat.not_lt_zero _)⟩

/-- The next read extends the reads so far if it leaves their words and their bits of READ_FAIL. -/
theorem ReadsUpTo.snoc {cal' : Vector Half 11} {readFail' : BitVec 11} {r : CalRead}
    (h : ReadsUpTo k.toNat cal readFail reads)
    (hold : ∀ j : Fin 11, k.toNat ≠ j.val →
      cal'[j] = cal[j] ∧ readFail'.getLsbD j.val = readFail.getLsbD j.val)
    (hnew : ∀ j : Fin 11, k.toNat = j.val →
      (readFail'.getLsbD j.val = false ↔ r = .ok cal'[j])) :
    ReadsUpTo (k.toNat + 1) cal' readFail' (reads ++ [(k, r)]) where
  length := by rw [List.length_append, h.length, List.length_singleton]
  entry j hj := by
    by_cases hk : k.toNat = j.val
    · refine ⟨r, ?_, hnew j hk⟩
      rw [← hk, ← h.length, List.getElem?_concat_length, h.length, BitVec.ofNat_toNat,
        BitVec.setWidth_eq]
    · obtain ⟨r', hr', hok⟩ := h.entry j (by omega)
      obtain ⟨hcal, hbit⟩ := hold j hk
      refine ⟨r', ?_, by rw [hcal, hbit, hok]⟩
      rw [List.getElem?_append_left (by rw [h.length]; omega), hr']

/-- Fewer than eleven reads are not those of a table. -/
theorem ReadsUpTo.ne_tableReads (h : ReadsUpTo n cal readFail reads) (hn : n ≤ 10) :
    reads ≠ tableReads cal := by
  rintro rfl
  have hlen := h.length
  rw [length_tableReads] at hlen
  omega

/-- R107: eleven reads are those of the table exactly when none of them failed. -/
theorem ReadsUpTo.eq_tableReads (h : ReadsUpTo 11 cal readFail reads) :
    reads = tableReads cal ↔ readFail = 0 := by
  constructor
  · rintro rfl
    refine BitVec.eq_of_getLsbD_eq fun j hj => ?_
    obtain ⟨r, hr, hok⟩ := h.entry ⟨j, hj⟩ hj
    rw [tableReads_get cal ⟨j, hj⟩, Option.some_inj, Prod.mk.injEq] at hr
    exact (hok.2 hr.2.symm).trans (BitVec.getLsbD_zero).symm
  · rintro rfl
    refine List.ext_getElem? fun j => ?_
    by_cases hj : j < 11
    · obtain ⟨r, hr, hok⟩ := h.entry ⟨j, hj⟩ hj
      rw [hr, tableReads_get cal ⟨j, hj⟩, hok.1 BitVec.getLsbD_zero]
    · rw [List.getElem?_eq_none (by rw [h.length]; omega),
        List.getElem?_eq_none (by rw [length_tableReads]; omega)]

/-! ## The record and the state -/

/-- The record l of a state in which a load is under way and has made its first n reads. -/
structure LoadUnderWay (l : LoadLog) (n : Nat) (s : State) : Prop where
  loading : l.loading = true
  notValid : l.valid = false
  reads : ReadsUpTo n s.cal s.calstat.readFail l.reads

/-- The record l of a state in which no load is under way. -/
structure LoadOver (l : LoadLog) (s : State) : Prop where
  notLoading : l.loading = false
  valid : l.valid = s.status.calValid
  tells : s.status.calValid = true ↔
    l.reads = tableReads s.cal ∧ ∀ j : Fin 11, badWord s.cal[j] = false

/-- The record l is right in s: a load is under way exactly while an LDCAL runs. -/
structure LoadRecord (l : LoadLog) (s : State) : Prop where
  underWay : s.status.busy = true → s.opl = 0x4#4 → LoadUnderWay l s.idx.toNat s
  settled : (s.status.busy = true → s.opl ≠ 0x4#4) → LoadOver l s

theorem LoadUnderWay.record (h : LoadUnderWay l s.idx.toNat s) (hb : s.status.busy = true)
    (ho : s.opl = 0x4#4) : LoadRecord l s :=
  ⟨fun _ _ => h, fun hn => absurd ho (hn hb)⟩

theorem LoadOver.record (h : LoadOver l s) (hn : s.status.busy = true → s.opl ≠ 0x4#4) :
    LoadRecord l s :=
  ⟨fun hb ho => absurd ho (hn hb), fun _ => h⟩

theorem LoadOver.congr (h : LoadOver l s) (hc : t.cal = s.cal)
    (hv : t.status.calValid = s.status.calValid) : LoadOver l t :=
  ⟨h.notLoading, hv ▸ h.valid, by rw [hc, hv]; exact h.tells⟩

theorem LoadOver.leavesTable (h : LoadOver (loadLog s.events) s) (k : LeavesTable s t) :
    LoadOver (loadLog t.events) t :=
  (k.log h.notLoading).symm ▸ h.congr k.cal k.calValid

/-- At reset nothing has been loaded (R44, R149). -/
theorem loadRecord_of_cleared (hb : s.status.busy = false) (hv : s.status.calValid = false) :
    LoadRecord ⟨false, [], false⟩ s := by
  have hne : ([] : List (BitVec 4 × CalRead)) ≠ tableReads s.cal :=
    (readsUpTo_nil s.cal 0).ne_tableReads (Nat.zero_le _)
  exact LoadOver.record ⟨rfl, hv.symm, by simp [hv, hne]⟩ (by simp [hb])

/-! ## Acceptance (R53) -/

theorem loadLog_accepted_ldcal (es : List Event) (hl : legal v = true) (ho : opField v = 0x4#4) :
    loadLog (es ++ [.cmdAccepted v]) = ⟨true, [], false⟩ := by
  rw [loadLog_snoc]
  exact if_pos (by simp [hl, ho])

theorem loadLog_accepted_other {es : List Event} (hn : (loadLog es).loading = false)
    (hv : legal v = true → opField v ≠ 0x4#4) :
    loadLog (es ++ [.cmdAccepted v]) = loadLog es := by
  rw [loadLog_snoc]
  refine (if_neg (by simpa using hv)).trans ?_
  rw [← hn]

theorem loadOver_accepted (h : LoadOver (loadLog s.events) s)
    (hv : legal v = true → opField v ≠ 0x4#4) :
    LoadOver (loadLog (accepted v s).events) (accepted v s) := by
  rw [accepted_events, loadLog_accepted_other h.notLoading hv]
  exact { h with }

theorem loadRecord_accept (h : LoadRecord (loadLog s.events) s) (hb : s.status.busy = false) :
    LoadRecord (loadLog (accept v s).events) (accept v s) := by
  have hset := h.settled (by simp [hb])
  have ended (c : ErrCode) (hv : legal v = true → opField v ≠ 0x4#4) :
      LoadRecord (loadLog (complete c .idle (accepted v s)).events)
        (complete c .idle (accepted v s)) :=
    ((loadOver_accepted hset hv).leavesTable (leavesB5_complete c _ _).toLeavesTable).record
      (by simp)
  by_cases hl : legal v = true
  case neg =>
    rw [accept_illegal (by simpa using hl)]
    exact ended _ fun h => absurd h hl
  by_cases ho : opField v = 0x4#4
  case pos =>
    rw [accept_starts hl (not_lacks_ldcal ho), startCommand_ldcal (s := accepted v s) ho,
      clearCalibration_events, setBusy_events, accepted_events, loadLog_accepted_ldcal _ hl ho]
    exact LoadUnderWay.record ⟨rfl, rfl, readsUpTo_nil _ _⟩ rfl ho
  by_cases hk : Lacks v s
  · rw [accept_lacking hl hk]
    exact ended _ fun _ => ho
  · rw [accept_starts hl hk, startCommand_other (s := accepted v s) ho]
    exact LoadOver.record { loadOver_accepted hset fun _ => ho with } fun _ => ho

/-! ## The reads of an LDCAL (R107) -/

theorem toNat_succ_of_le (h : k.toNat ≤ 10) : (k + 1).toNat = k.toNat + 1 := by
  rw [BitVec.toNat_add_of_lt] <;> simp
  omega

/-- A calibration read, with its outcome, is the next one of the load under way. -/
theorem loadUnderWay_calReadOutcome (f : Option XFail)
    (h : LoadUnderWay (loadLog s.events) s.idx.toNat s) (hload : Loading s)
    (hi : s.idx.toNat ≤ 10) :
    LoadUnderWay (loadLog (calReadOutcome f s).events) (s.idx.toNat + 1) (calReadOutcome f s) := by
  cases f with
  | none =>
    have hevents : (calReadOutcome none s).events =
      s.events ++ [.calRead s.idx (.ok (pairValue s))] := rfl
    rw [hevents, loadLog_snoc]
    refine ⟨h.loading, h.notValid, h.reads.snoc (fun j hj => ⟨?_, rfl⟩) fun j hj => ?_⟩
    · exact (setCal_get _ _ _ j).trans (if_neg hj)
    · have hcal : (calReadOutcome none s).cal[j] = pairValue s :=
        (setCal_get _ _ _ j).trans (if_pos hj)
      rw [hcal]
      exact iff_of_true (hload.ahead j hj.le).1 rfl
  | some f =>
    rw [calReadOutcome, calReadFail, keepFirstFailure_eq, emit_events, loadLog_snoc]
    refine ⟨h.loading, h.notValid, h.reads.snoc (fun j hj => ⟨rfl, ?_⟩) fun j hj => ?_⟩
    · exact setBit_get_ne _ hj
    · exact iff_of_false (by simp [setBit_get_same _ hj]) (by simp)

theorem loading_calReadOutcome (h : Inv s) (hb : s.status.busy = true) (ho : s.opl = 0x4#4)
    (hi : s.idx.toNat ≤ 10) (ht : InTransaction .rdpair s) :
    Loading { calReadOutcome s.xfail { s with xact := .none, xfail := none } with
      idx := s.idx + 1 } := by
  have hidx := toNat_succ_of_le hi
  have hend : Loading { s with xact := .none, xfail := none } := { h.loading hb ho with }
  cases hf : s.xfail with
  | none => exact loading_calReadOk hend hidx
  | some f =>
    obtain ⟨-, hx, hp⟩ := ht.failure f hf
    exact loading_calReadFail hend hi hidx hx hp

/-! ## The completion of an LDCAL (R107, R108) -/

/-- A load that has made its eleven reads and completes with c is over; c is NONE exactly when no read
failed and no word of the table shows a failed read. -/
theorem loadOver_complete {c : ErrCode} {p : Phase} (h : LoadUnderWay (loadLog s.events) 11 s)
    (hv : s.status.calValid = (c == .none))
    (hc : c = .none ↔ s.calstat.readFail = 0 ∧ ∀ j : Fin 11, badWord s.cal[j] = false) :
    LoadOver (loadLog (complete c p s).events) (complete c p s) := by
  have hlog : loadLog (complete c p s).events = ⟨false, (loadLog s.events).reads, c == .none⟩ := by
    rw [complete_events, loadLog_snoc]
    exact if_pos h.loading
  rw [hlog]
  refine ⟨rfl, hv.symm, ?_⟩
  change s.status.calValid = true ↔ (loadLog s.events).reads = tableReads s.cal ∧ _
  rw [hv, h.reads.eq_tableReads, beq_iff_eq]
  exact hc

/-- After eleven successful reads BAD_VALUE tells whether a word of the table shows a failed read. -/
theorem Loading.badValue_eq_zero (h : Loading { s with idx := 11 })
    (hr : s.calstat.readFail = 0) :
    s.calstat.badValue = 0 ↔ ∀ j : Fin 11, badWord s.cal[j] = false := by
  have hbit (j : Fin 11) : s.calstat.badValue.getLsbD j.val = badWord s.cal[j] :=
    h.done j j.isLt (by simp [hr])
  constructor
  · intro h0 j
    rw [← hbit, h0]
    exact BitVec.getLsbD_zero
  · intro hgood
    refine BitVec.eq_of_getLsbD_eq fun j hj => ?_
    exact (hbit ⟨j, hj⟩).trans ((hgood _).trans BitVec.getLsbD_zero.symm)

theorem loadOver_ldcalFinish (h : LoadUnderWay (loadLog s.events) 11 s)
    (hl : Loading { s with idx := 11 }) :
    LoadOver (loadLog (ldcalFinish s).events) (ldcalFinish s) := by
  have hv : s.status.calValid = false := hl.notValid
  unfold ldcalFinish
  split
  case isTrue hf =>
    have hr : s.calstat.readFail ≠ 0 := hl.failFlag.1 hf
    exact loadOver_complete (c := .busPhase) { h with } hv
      (iff_of_false (by decide) fun hk => hr hk.1)
  case isFalse hf =>
    have hr : s.calstat.readFail = 0 := not_not.1 (mt hl.failFlag.2 hf)
    have hbad := hl.badValue_eq_zero hr
    split
    case isTrue hb =>
      exact loadOver_complete (c := .badCal) h hv
        (iff_of_false (by decide) fun hk => hb (hbad.2 hk.2))
    case isFalse hb =>
      exact loadOver_complete (c := .none) { h with } rfl
        (iff_of_true rfl ⟨hr, hbad.1 (not_not.1 hb)⟩)

theorem busy_ldcalFinish (s : State) : (ldcalFinish s).status.busy = false := by
  unfold ldcalFinish
  split
  · rfl
  · split <;> rfl

/-- R107: a read whose outcome is in is followed by the next one of the load under way, or ends the load. -/
theorem loadRecord_calReadNext (hb : s.status.busy = true) (ho : s.opl = 0x4#4)
    (hi : s.idx.toNat ≤ 10) (hl : Loading { s with idx := s.idx + 1 })
    (h : LoadUnderWay (loadLog s.events) (s.idx.toNat + 1) s) :
    LoadRecord (loadLog (calReadNext s).events) (calReadNext s) := by
  rw [← toNat_succ_of_le hi] at h
  unfold calReadNext
  split
  case isTrue =>
    rw [startCalRead_events, loadLog_snoc]
    exact LoadUnderWay.record { h with } hb ho
  case isFalse hlt =>
    have h10 : s.idx = 10 := BitVec.eq_of_toNat_eq (le_antisymm hi (not_lt.1 hlt))
    have h11 : s.idx + 1 = 11 := by rw [h10]; rfl
    rw [h11] at hl h
    exact (loadOver_ldcalFinish h hl).record (by simp [busy_ldcalFinish])

theorem loadRecord_calReadEnd (h : Inv s) (hb : s.status.busy = true) (ho : s.opl = 0x4#4)
    (hi : s.idx.toNat ≤ 10) (ht : InTransaction .rdpair s)
    (hrec : LoadUnderWay (loadLog s.events) s.idx.toNat s) :
    LoadRecord (loadLog (calReadEnd s.xfail { s with xact := .none, xfail := none }).events)
      (calReadEnd s.xfail { s with xact := .none, xfail := none }) := by
  have hl := loading_calReadOutcome h hb ho hi ht
  have hrec' := loadUnderWay_calReadOutcome (s := { s with xact := .none, xfail := none }) s.xfail
    { hrec with } { h.loading hb ho with } hi
  rw [calReadEnd]
  obtain ⟨cal, cs, ff, st, p, x, es, e⟩ :=
    calReadOutcome_rest s.xfail { s with xact := .none, xfail := none }
  rw [e] at hl hrec' ⊢
  exact loadRecord_calReadNext hb ho hi hl hrec'

theorem loadRecord_ldcalBody (h : Inv s) (hb : s.status.busy = true) (hh : held s = false)
    (ho : s.opl = 0x4#4) (hrec : LoadUnderWay (loadLog s.events) s.idx.toNat s)
    (e : ldcalBody s = .next t) : LoadRecord (loadLog t.events) t := by
  obtain ⟨hn, -⟩ := held_eq_false.1 hh
  unfold ldcalBody at e
  obtain ⟨-, hi, -, hq⟩ | ⟨-, hi, ht, -⟩ := (commandAt_ldcal ho).1 (h.running hb)
  · rw [if_pos hq.noTransaction] at e
    cases e
    rw [startCalRead_events, loadLog_snoc]
    rw [hi] at hrec
    exact LoadUnderWay.record { hrec with } hb ho
  · rw [if_neg (by simp [ht.shape])] at e
    rcases read_with ht hn calReadEnd with ⟨u, p, r, xf, _, _, -, hs, -, rfl⟩ | ⟨hs, -⟩
    · cases hs.symm.trans e
      rw [post_events, loadLog_snoc]
      exact LoadUnderWay.record { hrec with } hb ho
    · cases hs.symm.trans e
      exact loadRecord_calReadEnd h hb ho hi ht hrec

/-! ## Steps -/

theorem loadRecord_of_exec (h : Inv s) (hrec : LoadRecord (loadLog s.events) s)
    (ho : s.status.busy = true → s.opl = i.op) (e : exec i s = .next t) :
    LoadRecord (loadLog t.events) t := by
  rw [exec_eq_runCommand] at e
  rcases runCommand_next e with ⟨hb, rfl⟩ | ⟨-, -, rfl⟩ | ⟨hb, hh, hbody⟩
  · exact loadRecord_accept hrec hb
  · exact hrec
  · by_cases h4 : s.opl = 0x4#4
    · rw [← ho hb, h4] at hbody
      exact loadRecord_ldcalBody h hb hh h4 (hrec.underWay hb h4) hbody
    · have k := leavesTable_bodyOfOp (ho hb ▸ h4) hbody
      exact ((hrec.settled fun _ => h4).leavesTable k).record fun _ => k.opl ▸ h4

/-- The moves of the other agents leave the record as it is. -/
theorem loadRecord_of_agentsOnly (hrec : LoadRecord (loadLog s.events) s) (k : AgentsOnly s t)
    (he : loadLog t.events = loadLog s.events) : LoadRecord (loadLog t.events) t := by
  rw [he]
  obtain ⟨_, _, _, _, _, _, _, rfl⟩ := k.rest
  exact ⟨fun hb ho => { hrec.underWay hb ho with }, fun hn => { hrec.settled hn with }⟩

theorem loadLog_busAnswer (b : Byte) (s : State) :
    loadLog (busAnswer b s).events = loadLog s.events := by
  cases hr : s.busReq with
  | none => rw [busAnswer_none b hr]
  | some r =>
    rw [busAnswer_some b hr]
    exact loadLog_snoc _ _

theorem loadLog_timerAnswer (s : State) : loadLog (timerAnswer s).events = loadLog s.events := by
  unfold timerAnswer
  split
  · exact loadLog_snoc _ _
  · rfl

theorem loadRecord_of_hostWrite {off : Byte} {m : Nat} {w : Word}
    (hrec : LoadRecord (loadLog s.events) s) (e : hostWrite exec off m w s = .next t) :
    LoadRecord (loadLog t.events) t := by
  cases hd : accessDefined off m with
  | false => rw [hostWrite_refused w hd] at e; cases e
  | true =>
    by_cases ho : off = WindowReg.cmd.offset
    case neg => rw [hostWrite_other w hd ho] at e; cases e; exact hrec
    subst ho
    cases hb : s.status.busy with
    | true =>
      rw [hostWrite_cmd_busy w hd hb] at e
      cases e
      exact loadRecord_of_agentsOnly hrec (agentsOnly_reject w s) (loadLog_snoc _ _)
    | false =>
      rw [hostWrite_cmd_idle w hd hb] at e
      cases e
      exact loadRecord_accept hrec hb

theorem loadRecord_of_sequencerTurn (h : Inv s) (hrec : LoadRecord (loadLog s.events) s)
    (e : sequencerTurn exec s = .next t) : LoadRecord (loadLog t.events) t := by
  unfold sequencerTurn at e
  split at e
  · split at e
    next i hd => exact loadRecord_of_exec h hrec (fun _ => opl_of_decode hd) e
    next => cases e
  · cases e
    exact hrec

theorem loadRecord_resetMove (s : State) :
    LoadRecord (loadLog (resetMove s).events) (resetMove s) := by
  rw [resetMove_events, loadLog_snoc]
  exact loadRecord_of_cleared rfl rfl

theorem loadRecord_of_agentMove {m : Move} (h : Inv s) (hrec : LoadRecord (loadLog s.events) s)
    (e : agentMove exec m s = .next t) : LoadRecord (loadLog t.events) t := by
  cases m with
  | hostRead off n =>
    simp only [agentMove, hostRead] at e
    split at e <;> cases e
    exact loadRecord_of_agentsOnly hrec (agentsOnly_hostReads s _) rfl
  | hostWrite off n v => exact loadRecord_of_hostWrite hrec e
  | sequencer => exact loadRecord_of_sequencerTurn h hrec e
  | busAnswer b =>
    cases e
    exact loadRecord_of_agentsOnly hrec (agentsOnly_busAnswer b s) (loadLog_busAnswer b s)
  | timerAnswer =>
    cases e
    exact loadRecord_of_agentsOnly hrec (agentsOnly_timerAnswer s) (loadLog_timerAnswer s)
  | rst =>
    cases e
    exact loadRecord_resetMove s

theorem loadRecord_of_step (h : Inv s) (hrec : LoadRecord (loadLog s.events) s)
    (e : step s = .next t) : LoadRecord (loadLog t.events) t := by
  cases hm : s.moves with
  | nil => exact loadRecord_of_sequencerTurn h hrec (step_nil hm ▸ e)
  | cons m rest =>
    have k := agentsOnly_moves s rest
    exact loadRecord_of_agentMove (k.inv h) (loadRecord_of_agentsOnly hrec k rfl) (step_cons hm ▸ e)

theorem Reachable.loadRecord (h : Reachable s) : LoadRecord (loadLog s.events) s := by
  induction h with
  | reset c => exact loadRecord_of_cleared rfl rfl
  | step s t ms hs e ih =>
    have k := agentsOnly_moves s ms
    exact loadRecord_of_step (k.inv hs.inv) (loadRecord_of_agentsOnly ih k rfl) e

/-! ## The obligation -/

/-- While an LDCAL runs at most ten of its reads are on record. -/
theorem idx_le_of_ldcal (h : Inv s) (hb : s.status.busy = true) (ho : s.opl = 0x4#4) :
    s.idx.toNat ≤ 10 := by
  obtain ⟨-, hi, -⟩ | ⟨-, hi, -⟩ := (commandAt_ldcal ho).1 (h.running hb)
  · simp [hi]
  · exact hi

/-- Settles O31: the record is right in every reachable state (`Reachable.loadRecord`); while an LDCAL runs
CAL_VALID is 0 and its reads are too few, and otherwise the record tells CAL_VALID. -/
theorem calValidTellsTheLastLoad : Obligations.CalValidTellsTheLastLoad := by
  intro s hs
  have h := hs.inv
  have hrec := hs.loadRecord
  simp only [← badWord_eq_false]
  by_cases hload : s.status.busy = true ∧ s.opl = 0x4#4
  · obtain ⟨hb, ho⟩ := hload
    have hw := hrec.underWay hb ho
    have hv := (h.loading hb ho).notValid
    have hne := hw.reads.ne_tableReads (idx_le_of_ldcal h hb ho)
    exact ⟨hv.trans hw.notValid.symm, by simp [hv, hne]⟩
  · have hset := hrec.settled (not_and.1 hload)
    exact ⟨hset.valid.symm, hset.tells⟩

end Sys2Proof.Machine
end

section
/-! PROOF. Commands without their flags (60_exceptions.md R132): what a command accepted by an idle block
lacks, in the numbers of its OP, and how it completes or starts. -/

namespace Sys2Proof.Machine

variable {s : State} {i : Instr}

theorem lacks_encode_iff :
    Lacks (encode i) s ↔
      ((i.op = 5#4 ∨ i.op = 6#4 ∨ i.op = 7#4 ∨ i.op = 8#4) ∧ s.status.calValid = false) ∨
        ((i.op = 6#4 ∨ i.op = 8#4) ∧ s.status.b5Valid = false) := by
  rw [Lacks, opField_encode, needsCal_iff, needsB5_iff]

theorem exec_lacking (hb : s.status.busy = false) (hk : Lacks (encode i) s) :
    exec i s = .next (complete .uncalibrated .idle (accepted (encode i) s)) := by
  rw [exec_idle i hb, accept_lacking (legal_encode i) hk]

theorem exec_starts (hb : s.status.busy = false) (hk : ¬ Lacks (encode i) s) :
    exec i s = .next (startCommand (accepted (encode i) s)) := by
  rw [exec_idle i hb, accept_starts (legal_encode i) hk]

@[simp] theorem startCommand_busy (s : State) : (startCommand s).status.busy = true := by
  by_cases ho : s.opl = 0x4#4
  · simp [startCommand_ldcal ho]
  · simp [startCommand_other ho]

@[simp] theorem startCommand_events (s : State) : (startCommand s).events = s.events := by
  by_cases ho : s.opl = 0x4#4
  · simp [startCommand_ldcal ho]
  · simp [startCommand_other ho]

/-- Settles O15: a command that lacks a flag completes in its acceptance (`exec_lacking`), any other starts
(`exec_starts`). -/
theorem uncalibratedCommands : Obligations.UncalibratedCommands := by
  intro i s hb needsTable needsB
  refine ⟨fun hk => ?_, fun hc h5 => ?_⟩
  · exact ⟨_, exec_lacking hb (lacks_encode_iff.2 hk), by simp⟩
  · have hk : ¬ Lacks (encode i) s := by
      rw [lacks_encode_iff]
      rintro (⟨hn, hv⟩ | ⟨hn, hv⟩)
      · exact absurd (hc hn) (by simp [hv])
      · exact absurd (h5 hn) (by simp [hv])
    exact ⟨_, exec_starts hb hk, by simp⟩

end Sys2Proof.Machine
end

section
/-! PROOF. Decoding and encoding are inverse (30_encoding.md R68, R73), and the number every assembler line
stands for (R76, R77). -/

namespace Sys2Proof

/-! ## Exactly the legal words decode -/

/-- R73: with RSV = 0 and OP from 1 to 8 a branch of the decoder answers a command. -/
theorem decode_of_legal {v : Word} (h : legal v = true) : ∃ i, decode v = .ok i := by
  obtain ⟨hop, hr⟩ := legal_iff.1 h
  rw [← opField_toNat] at hop
  simp only [decode, rsvField_eq_zero_iff.2 hr, ne_eq, not_true_eq_false, if_false]
  split
  case h_9 =>
    simp only [imp_false] at *
    omega
  all_goals exact ⟨_, rfl⟩

theorem decode_iff_legal (v : Word) : (∃ i, decode v = .ok i) ↔ legal v = true := by
  refine ⟨?_, decode_of_legal⟩
  rintro ⟨i, h⟩
  rw [← Machine.encode_of_decode h]
  exact legal_encode i

/-- Settles O1: a packed word gives its fields back (`decode_encode`), and a word is its fields packed
(`encode_of_decode`). -/
theorem decodeAndEncodeAgree : Obligations.DecodeAndEncodeAgree :=
  ⟨decode_encode, fun _ _ => Machine.encode_of_decode, decode_iff_legal⟩

/-! ## Words as numbers -/

theorem append_toNat {m n : Nat} (a : BitVec m) (b : BitVec n) :
    (a ++ b).toNat = a.toNat * 2 ^ n + b.toNat := by
  rw [BitVec.toNat_append, ← Nat.shiftLeft_add_eq_or_of_lt b.isLt, Nat.shiftLeft_eq]

/-- R68: the number of a word with RSV = 0. -/
theorem packWord_toNat (h : Half) (b : Byte) (op : BitVec 4) :
    (packWord h b 0#4 op).toNat = h.toNat * 2 ^ 16 + b.toNat * 2 ^ 8 + op.toNat := by
  rw [packWord, append_toNat, append_toNat, append_toNat]
  simp only [BitVec.toNat_ofNat]
  omega

/-! ## Assembled words (R76, R77) -/

variable {c : Config} {l : AsmLine} {i : Instr}

/-- R76: a line in range assembles to the word of its command. -/
theorem assemble_eq_encode (h : l.instr c = some i) (hw : l.wellFormed = true) :
    l.assemble c = some (encode i) := by
  cases l with
  | word v => cases h
  | _ => cases h; simp [AsmLine.assemble, hw, AsmLine.instr]

/-- A line whose operands are in range exactly if p holds assembles to the number n or to nothing. -/
theorem assemble_eq {p : Prop} [Decidable p] {n : Nat} (h : l.instr c = some i)
    (hp : l.wellFormed = true ↔ p)
    (hn : p → i.hOperand.toNat * 2 ^ 16 + i.bOperand.toNat * 2 ^ 8 + i.op.toNat = n) :
    l.assemble c = if p then some (BitVec.ofNat 32 n) else none := by
  split
  case isTrue hr =>
    rw [assemble_eq_encode h (hp.2 hr), ← hn hr, ← packWord_toNat, BitVec.ofNat_toNat,
      BitVec.setWidth_eq]
    rfl
  case isFalse hr => exact if_neg (mt hp.1 hr)

variable (c)

theorem assemble_init (a b : Nat) : (AsmLine.init a b).assemble c =
    if a ≤ 255 ∧ b ≤ 255 then some (BitVec.ofNat 32 (b * 2 ^ 16 + a * 2 ^ 8 + 1)) else none := by
  refine assemble_eq rfl (by simp [AsmLine.wellFormed]) fun ⟨ha, hb⟩ => ?_
  rw [Instr.hOperand, append_toNat, Instr.bOperand, Instr.op]
  simp only [BitVec.ofNat_eq_ofNat, BitVec.toNat_ofNat]
  omega

theorem assemble_trig (a : Nat) : (AsmLine.trig a).assemble c =
    if a ≤ 255 then some (BitVec.ofNat 32 (a * 2 ^ 8 + 2)) else none := by
  refine assemble_eq rfl (by simp [AsmLine.wellFormed]) fun ha => ?_
  simp only [Instr.hOperand, Instr.bOperand, Instr.op, BitVec.ofNat_eq_ofNat, BitVec.toNat_ofNat]
  omega

theorem assemble_rdpair (a b : Nat) : (AsmLine.rdpair a b).assemble c =
    if a ≤ 255 ∧ b ≤ 65535 then some (BitVec.ofNat 32 (b * 2 ^ 16 + a * 2 ^ 8 + 3)) else none := by
  refine assemble_eq rfl (by simp [AsmLine.wellFormed]) fun ⟨ha, hb⟩ => ?_
  simp only [Instr.hOperand, Instr.bOperand, Instr.op, BitVec.toNat_ofNat]
  omega

theorem assemble_ctemp (a : Nat) : (AsmLine.ctemp a).assemble c =
    if a ≤ 65535 then some (BitVec.ofNat 32 (a * 2 ^ 16 + 5)) else none := by
  refine assemble_eq rfl (by simp [AsmLine.wellFormed]) fun ha => ?_
  simp only [Instr.hOperand, Instr.bOperand, Instr.op, BitVec.ofNat_eq_ofNat, BitVec.toNat_ofNat]
  omega

theorem assemble_cpres (a : Nat) : (AsmLine.cpres a).assemble c =
    if a ≤ 65535 then some (BitVec.ofNat 32 (a * 2 ^ 16 + 6)) else none := by
  refine assemble_eq rfl (by simp [AsmLine.wellFormed]) fun ha => ?_
  simp only [Instr.hOperand, Instr.bOperand, Instr.op, BitVec.ofNat_eq_ofNat, BitVec.toNat_ofNat]
  omega

/-- A control byte is in range, so a line may name it by its number. -/
theorem assemble_trig_toNat (b : Byte) :
    (AsmLine.trig b.toNat).assemble c = some (encode (.trig b 0)) := by
  have hb : b.toNat ≤ 255 := Nat.le_of_lt_succ b.isLt
  exact assemble_eq_encode (by simp [AsmLine.instr]) (by simp [AsmLine.wellFormed, hb])

theorem assemble_rdpair_toNat (ra : Byte) (ia : Half) :
    (AsmLine.rdpair ra.toNat ia.toNat).assemble c = some (encode (.rdpair ra ia)) := by
  have ha : ra.toNat ≤ 255 := Nat.le_of_lt_succ ra.isLt
  have hi : ia.toNat ≤ 65535 := Nat.le_of_lt_succ ia.isLt
  exact assemble_eq_encode (by simp [AsmLine.instr]) (by simp [AsmLine.wellFormed, ha, hi])

/-- 20_memory.md R47: the addresses of a calibration entry wrap at 8 bits. -/
theorem calAddrHi_toNat (i : Nat) : (calAddrHi c i).toNat = (c.calBase.toNat + 2 * i) % 256 := by
  simp [calAddrHi]

theorem calPair_toNat (i : Nat) : (calPair c i).toNat =
    (c.calBase.toNat + 2 * i) % 256 * 256 + (c.calBase.toNat + 2 * i + 1) % 256 := by
  rw [calPair, append_toNat, calAddrHi_toNat]
  simp [calAddrLo, Nat.add_assoc]

/-- R77: RDCAL i is RDPAIR of the entry's two addresses. -/
theorem assemble_rdcal (a : Nat) : (AsmLine.rdcal a).assemble c =
    if a ≤ 10 then
      (AsmLine.rdpair ((c.calBase.toNat + 2 * a) % 256)
        ((c.calBase.toNat + 2 * a) % 256 * 256 + (c.calBase.toNat + 2 * a + 1) % 256)).assemble c
    else none := by
  rw [← calPair_toNat, ← calAddrHi_toNat, assemble_rdpair_toNat]
  split
  case isTrue h => exact assemble_eq_encode rfl (by simpa [AsmLine.wellFormed] using h)
  case isFalse h => exact if_neg (by simpa [AsmLine.wellFormed] using h)

theorem assemble_word (a : Nat) : (AsmLine.word a).assemble c =
    if a < 2 ^ 32 then some (BitVec.ofNat 32 a) else none := by
  simp only [AsmLine.assemble, AsmLine.wellFormed, decide_eq_true_eq]

/-- Settles O4: each line by its own lemma; the pseudo-commands name bytes, which are in range. -/
theorem assembledWords : Obligations.AssembledWords := by
  intro c a b
  refine ⟨assemble_init c a b, assemble_trig c a, assemble_rdpair c a b, rfl, assemble_ctemp c a,
    assemble_cpres c a, rfl, rfl, ?_, ?_, assemble_rdcal c a, ?_, assemble_word c a⟩
  · rw [assemble_trig_toNat]
    rfl
  · rw [assemble_trig_toNat]
    rfl
  · have hpair : (resPair c).toNat = c.resMsb.toNat * 256 + c.resLsb.toNat := append_toNat _ _
    rw [← hpair, assemble_rdpair_toNat]
    rfl

end Sys2Proof
end

section
/-! PROOF. The machine invariant over whole steps: every step keeps it, and from it only the host accesses that
20_memory.md R48 refuses stop the machine. -/

namespace Sys2Proof.Machine

variable {s : State}

/-- Settles O46: every agent's move keeps the invariant (`inv_of_step`). -/
theorem stepKeepsInv : Obligations.StepKeepsInv := fun _ _ => inv_of_step

/-- Settles O48: acceptance when idle, the step of the latched command when running (`exec_inv`). -/
theorem everyCommandAnswers : Obligations.EveryCommandAnswers := fun i _ => exec_inv i

/-- The latches of a running block hold one of the eight commands. -/
theorem decode_latched (h : Inv s) (hb : s.status.busy = true) : ∃ i, decode (latchedWord s) = .ok i := by
  refine decode_of_legal ?_
  rw [latchedWord, legal_packWord]
  rcases commandAt_op (h.running hb) with ho | ho | ho | ho | (ho | ho) | ho | ho <;> simp [ho]

theorem sequencerTurn_next (h : Inv s) : ∃ t, sequencerTurn exec s = .next t := by
  cases hb : s.status.busy with
  | false => exact ⟨s, by simp [sequencerTurn, hb]⟩
  | true =>
    obtain ⟨i, hi⟩ := decode_latched h hb
    obtain ⟨t, ht, -⟩ := exec_inv i h fun _ => hi
    exact ⟨t, by simp [sequencerTurn, hb, hi, ht]⟩

/-- Every move the spec defines has a step from the invariant. -/
theorem agentMove_next {m : Move} (h : Inv s) (hm : m.defined = true) :
    ∃ t, agentMove exec m s = .next t := by
  cases m with
  | hostRead off n => exact ⟨_, hostRead_defined hm⟩
  | hostWrite off n v => exact hostWrite_defined v hm
  | sequencer => exact sequencerTurn_next h
  | busAnswer b => exact ⟨_, rfl⟩
  | timerAnswer => exact ⟨_, rfl⟩
  | rst => exact ⟨_, rfl⟩

/-- R48: an undefined move is a host access, and it is refused. -/
theorem agentMove_refused {m : Move} (hm : m.defined = false) :
    agentMove exec m s = .refused .hostAccess := by
  cases m with
  | hostRead off n => exact hostRead_refused hm
  | hostWrite off n v => exact hostWrite_refused v hm
  | sequencer | busAnswer _ | timerAnswer | rst => cases hm

/-- Settles O47: a defined move has a step, an undefined one is refused. -/
theorem onlyUndefinedAccessesStop : Obligations.OnlyUndefinedAccessesStop := by
  intro s h
  cases hms : s.moves with
  | nil =>
    rw [step_nil hms]
    exact .inl (sequencerTurn_next h)
  | cons m ms =>
    rw [step_cons hms]
    cases hm : m.defined with
    | true => exact .inl (agentMove_next ((agentsOnly_moves s ms).inv h) hm)
    | false => exact .inr ⟨agentMove_refused hm, m, ms, rfl, hm⟩

end Sys2Proof.Machine
end

section
/-! PROOF. The host cannot disturb a running command (20_memory.md R52, R63): no move of another agent reads the
REJECT flag, the history, the host's record or the moves still to come, and each only adds to the history. So a
move of a state is the move of the state without these, with these put back (`onto`). -/

namespace Sys2Proof.Machine

variable {b s t : State}

/-! ## The host's part of a state -/

/-- The state s with the REJECT flag, the host's record and the moves of b, and the history of b before its
own. -/
def onto (b s : State) : State :=
  { s with
    status := { s.status with reject := b.status.reject }
    events := b.events ++ s.events, hostReads := b.hostReads, moves := b.moves }

/-- A state without the host's part and without history. -/
def bare (s : State) : State :=
  { s with status := { s.status with reject := false }, events := [], hostReads := [], moves := [] }

@[simp] theorem onto_bare (s : State) : onto s (bare s) = s := by simp [onto, bare]

@[simp] theorem onto_phase (b s : State) : (onto b s).phase = s.phase := rfl
@[simp] theorem onto_xact (b s : State) : (onto b s).xact = s.xact := rfl
@[simp] theorem onto_stage (b s : State) : (onto b s).stage = s.stage := rfl
@[simp] theorem onto_idx (b s : State) : (onto b s).idx = s.idx := rfl
@[simp] theorem onto_calstat (b s : State) : (onto b s).calstat = s.calstat := rfl
@[simp] theorem onto_ffail (b s : State) : (onto b s).ffail = s.ffail := rfl
@[simp] theorem onto_hl (b s : State) : (onto b s).hl = s.hl := rfl
@[simp] theorem onto_ra (b s : State) : (onto b s).ra = s.ra := rfl
@[simp] theorem onto_ia (b s : State) : (onto b s).ia = s.ia := rfl
@[simp] theorem onto_tb (b s : State) : (onto b s).tb = s.tb := rfl
@[simp] theorem onto_rawl (b s : State) : (onto b s).rawl = s.rawl := rfl
@[simp] theorem onto_cfg (b s : State) : (onto b s).cfg = s.cfg := rfl
@[simp] theorem onto_busAns (b s : State) : (onto b s).busAns = s.busAns := rfl

/-! ## The shared operations -/

theorem emit_onto (e : Event) (b s : State) : emit e (onto b s) = onto b (emit e s) := by
  simp [emit, onto]

@[simp] theorem post_onto (r : BusReq) (b s : State) : post r (onto b s) = onto b (post r s) :=
  emit_onto _ b { s with busReq := some r, busAns := none }

@[simp] theorem enterPhase_onto (p : Phase) (r : BusReq) (b s : State) :
    enterPhase p r (onto b s) = onto b (enterPhase p r s) := post_onto r b { s with phase := p }

@[simp] theorem check_onto (ok : Bool) (x : Byte) (p : Phase) (r : BusReq) (b s : State) :
    check ok x p r (onto b s) = onto b (check ok x p r s) := by
  cases ok
  · exact enterPhase_onto .stop .stop b { s with xfail := some ⟨x, s.phase, s.xact⟩ }
  · exact enterPhase_onto p r b s

@[simp] theorem startTrig_onto (tb : Byte) (b s : State) :
    startTrig tb (onto b s) = onto b (startTrig tb s) :=
  enterPhase_onto .start .start b { s with tb := tb, xact := .trig, xfail := none }

@[simp] theorem startRead_onto (ra : Byte) (ia : Half) (b s : State) :
    startRead ra ia (onto b s) = onto b (startRead ra ia s) :=
  enterPhase_onto .start .start b { s with ra := ra, ia := ia, xact := .rdpair, xfail := none }

@[simp] theorem complete_onto (c : ErrCode) (p : Phase) (b s : State) :
    complete c p (onto b s) = onto b (complete c p s) := by
  simp [complete, emit, onto]

@[simp] theorem raiseError_onto (e : Raised) (b s : State) :
    raiseError e (onto b s) = onto b (raiseError e s) := by
  cases e with
  | busPhase f =>
    exact complete_onto _ _ b
      { s with status := { s.status with busStatus := f.status, failXact := f.shape } }
  | divZero | uncalibrated | illegalCmd | badCal => exact complete_onto _ _ b s

@[simp] theorem convRequest_onto (m : ConvMode) (b s : State) :
    convRequest m (onto b s) = onto b (convRequest m s) :=
  emit_onto _ b { s with phase := .waitConv, conv := ⟨true, m⟩, busAns := none }

theorem busAnswer_onto (x : Byte) (b s : State) :
    busAnswer x (onto b s) = onto b (busAnswer x s) := by
  cases h : s.busReq with
  | none => rw [busAnswer_none x h, busAnswer_none (s := onto b s) x h]
  | some r =>
    rw [busAnswer_some x h, busAnswer_some (s := onto b s) x h]
    exact emit_onto _ b { s with busReq := none, busAns := some (answerOf r x) }

theorem timerAnswer_onto (b s : State) : timerAnswer (onto b s) = onto b (timerAnswer s) := by
  unfold timerAnswer
  rw [show (onto b s).conv = s.conv from rfl]
  split
  · exact emit_onto _ b { s with conv := ⟨false, s.conv.mode⟩ }
  · rfl

/-! ## Transactions -/

/-- A step inside a transaction, with the host's part put back. -/
def XStep.onto (b : State) : XStep → XStep
  | .running s => .running (Machine.onto b s)
  | .ended f s => .ended f (Machine.onto b s)
  | .stuck => .stuck

/-- An answer of the machine, with the host's part put back. -/
def ontoResult (b : State) : Result → Result
  | .next s => .next (onto b s)
  | .fault r => .fault r
  | .refused r => .refused r

@[simp] theorem xStep_onto_running (b s : State) :
    (XStep.running s).onto b = .running (onto b s) := rfl
@[simp] theorem xStep_onto_stuck (b : State) : XStep.stuck.onto b = .stuck := rfl
@[simp] theorem endTransaction_onto (b s : State) :
    endTransaction (onto b s) = (endTransaction s).onto b := rfl

@[simp] theorem ontoResult_next (b s : State) : ontoResult b (.next s) = .next (onto b s) := rfl

@[simp] theorem trigStep_onto (b s : State) : trigStep (onto b s) = (trigStep s).onto b := by
  unfold trigStep
  rw [onto_phase, onto_busAns]
  split <;> simp

@[simp] theorem readStep_onto (b s : State) : readStep (onto b s) = (readStep s).onto b := by
  unfold readStep
  rw [onto_phase, onto_busAns]
  split
  -- the two READ answers, which go into dhi and dlo (R93)
  case h_12 x _ _ => exact congrArg XStep.running (post_onto .status b { s with dhi := x })
  case h_16 x _ _ => exact congrArg XStep.running (post_onto .status b { s with dlo := x })
  all_goals simp

theorem withTransaction_onto {k : Option XFail → State → State}
    (hk : ∀ f u, k f (onto b u) = onto b (k f u)) (x : XStep) :
    withTransaction (x.onto b) k = ontoResult b (withTransaction x k) := by
  cases x with
  | running u => rfl
  | ended f u => exact congrArg Host.Outcome.next (hk f u)
  | stuck => rfl

theorem onOutcome_onto {ok : State → State} (hok : ∀ u, ok (onto b u) = onto b (ok u))
    (f : Option XFail) (s : State) : onOutcome ok f (onto b s) = onto b (onOutcome ok f s) := by
  cases f with
  | none => exact hok s
  | some f => exact raiseError_onto (.busPhase f) b s

/-! ## The bodies of the commands -/

theorem calReadOutcome_onto (f : Option XFail) (b s : State) :
    calReadOutcome f (onto b s) = onto b (calReadOutcome f s) := by
  cases f with
  | none =>
    exact emit_onto (.calRead s.idx (.ok (pairValue s))) b { calReadOk s with events := s.events }
  | some f =>
    have hk : keepFirstFailure f (markReadFail (onto b s)) =
        onto b (keepFirstFailure f (markReadFail s)) := by
      rw [keepFirstFailure_eq, keepFirstFailure_eq]
      rfl
    exact (congrArg _ hk).trans (emit_onto (.calRead s.idx (.fail f.status)) b _)

theorem ldcalFinish_onto (b s : State) : ldcalFinish (onto b s) = onto b (ldcalFinish s) := by
  unfold ldcalFinish
  rw [onto_ffail, onto_calstat]
  split
  · exact raiseError_onto _ b s
  · split
    · exact raiseError_onto _ b s
    · exact complete_onto _ _ b { s with status := { s.status with calValid := true } }

theorem startCalRead_onto (i : BitVec 4) (b s : State) :
    startCalRead i (onto b s) = onto b (startCalRead i s) :=
  startRead_onto _ _ b { s with idx := i, stage := 1 }

theorem calReadEnd_onto (f : Option XFail) (b s : State) :
    calReadEnd f (onto b s) = onto b (calReadEnd f s) := by
  rw [calReadEnd, calReadEnd, calReadOutcome_onto, calReadNext, calReadNext, onto_idx]
  split
  · exact startCalRead_onto _ b _
  · exact ldcalFinish_onto b _

theorem computeTemp_onto (raw : Half) (b s : State) :
    computeTemp raw (onto b s) = onto b (computeTemp raw s) := by
  cases h : tempf s.cfg s.cal raw with
  | none =>
    rw [computeTemp_divZero h, computeTemp_divZero (s := onto b s) h, raiseError_onto]
  | some r =>
    rw [computeTemp_result h, computeTemp_result (s := onto b s) h, ← complete_onto, ← emit_onto]
    rfl

theorem computePress_onto (raw : Half) (b s : State) :
    computePress raw (onto b s) = onto b (computePress raw s) := by
  cases h : presf s.cfg s.cal s.b5 raw with
  | none =>
    rw [computePress_divZero h, computePress_divZero (s := onto b s) h, raiseError_onto]
  | some p =>
    rw [computePress_result h, computePress_result (s := onto b s) h, ← complete_onto, ← emit_onto]
    rfl

theorem computeBody_onto {compute : Half → State → State}
    (hc : ∀ raw u, compute raw (onto b u) = onto b (compute raw u)) (s : State) :
    computeBody compute (onto b s) = ontoResult b (computeBody compute s) := by
  unfold computeBody
  rw [onto_phase, onto_hl, hc]
  split <;> rfl

theorem compositeBody_onto {compute : Half → State → State}
    (hc : ∀ raw u, compute raw (onto b u) = onto b (compute raw u)) (ctrl : Byte) (mode : ConvMode)
    (s : State) : compositeBody ctrl mode compute (onto b s) =
      ontoResult b (compositeBody ctrl mode compute s) := by
  have stage1 := withTransaction_onto (x := trigStep s) (onOutcome_onto (b := b)
    (ok := fun s => convRequest mode { s with stage := 2 })
    fun u => convRequest_onto mode b { u with stage := 2 })
  have stage3 := withTransaction_onto (x := readStep s) (onOutcome_onto (b := b)
    (ok := resultReadDone) fun _ => rfl)
  unfold compositeBody
  rw [onto_stage, onto_xact, onto_rawl, onto_cfg, trigStep_onto, readStep_onto, stage1, stage3, hc,
    startTrig_onto, startRead_onto]
  repeat' split
  all_goals rfl

theorem initBody_onto (b s : State) : initBody (onto b s) = ontoResult b (initBody s) := by
  unfold initBody
  rw [onto_phase, onto_busAns, enterPhase_onto, complete_onto]
  split <;> rfl

theorem trigBody_onto (b s : State) : trigBody (onto b s) = ontoResult b (trigBody s) := by
  unfold trigBody
  rw [onto_xact, startTrig_onto, trigStep_onto,
    withTransaction_onto (onOutcome_onto (complete_onto _ _ b))]
  split <;> rfl

theorem rdpairBody_onto (b s : State) : rdpairBody (onto b s) = ontoResult b (rdpairBody s) := by
  have hok (u : State) : rdpairDone (onto b u) = onto b (rdpairDone u) :=
    complete_onto _ _ b { u with result := pairValue u }
  unfold rdpairBody
  rw [onto_xact, startRead_onto, readStep_onto, withTransaction_onto (onOutcome_onto hok)]
  split <;> rfl

theorem ldcalBody_onto (b s : State) : ldcalBody (onto b s) = ontoResult b (ldcalBody s) := by
  unfold ldcalBody
  rw [onto_xact, startCalRead_onto, readStep_onto, withTransaction_onto (calReadEnd_onto · b)]
  split <;> rfl

theorem bodyOfOp_onto (op : BitVec 4) (b s : State) :
    bodyOfOp op (onto b s) = ontoResult b (bodyOfOp op s) := by
  unfold bodyOfOp
  split
  · exact initBody_onto b s
  · exact trigBody_onto b s
  · exact rdpairBody_onto b s
  · exact ldcalBody_onto b s
  · exact computeBody_onto (computeTemp_onto · b) s
  · exact computeBody_onto (computePress_onto · b) s
  · exact compositeBody_onto (computeTemp_onto · b) _ _ s
  · exact compositeBody_onto (computePress_onto · b) _ _ s
  · rfl

/-! ## Moves -/

theorem exec_onto (i : Instr) (b : State) (hb : s.status.busy = true) :
    exec i (onto b s) = ontoResult b (exec i s) := by
  rw [exec_eq_runCommand, exec_eq_runCommand]
  cases hh : held s with
  | true => rw [runCommand_held hb hh, runCommand_held (s := onto b s) hb hh, ontoResult_next]
  | false =>
    rw [runCommand_body hb hh, runCommand_body (s := onto b s) hb hh, bodyOfOp_onto]

theorem sequencerTurn_onto (b s : State) :
    sequencerTurn exec (onto b s) = ontoResult b (sequencerTurn exec s) := by
  cases hb : s.status.busy with
  | false => simp [sequencerTurn, hb, show (onto b s).status.busy = false from hb]
  | true =>
    have hl : latchedWord (onto b s) = latchedWord s := rfl
    simp only [sequencerTurn, hb, show (onto b s).status.busy = true from hb, hl, if_true]
    split
    · exact exec_onto _ b hb
    · rfl

/-- A move that is no host access makes of s what it makes of s without the host's part, with that part put
back. The reset is set apart: it clears REJECT. -/
theorem agentMove_bare {m : Move} (hm : m.isHost = false) (hne : m ≠ .rst) (s : State) :
    agentMove exec m s = ontoResult s (agentMove exec m (bare s)) := by
  conv_lhs => rw [← onto_bare s]
  cases m with
  | hostRead _ _ | hostWrite _ _ _ => cases hm
  | sequencer => exact sequencerTurn_onto s (bare s)
  | busAnswer x => exact congrArg Host.Outcome.next (busAnswer_onto x s (bare s))
  | timerAnswer => exact congrArg Host.Outcome.next (timerAnswer_onto s (bare s))
  | rst => exact absurd rfl hne

/-! ## The obligation -/

/-- What the host cannot leave behind in s is in `bare s` and in the history without rejections. -/
theorem withoutHost_onto (b u : State) :
    (onto b u).withoutHost = onto b.withoutHost u.withoutHost := by
  simp [State.withoutHost, onto]

theorem bare_withoutHost (s : State) : bare s.withoutHost = bare s := rfl

theorem withoutHost_resetMove (s : State) :
    (resetMove s).withoutHost = resetMove s.withoutHost := by
  simp [State.withoutHost, resetMove, emit, State.reset, Status.reset]

theorem step_one (m : Move) (s : State) :
    step { s with moves := [m] } = agentMove exec m { s with moves := [] } := step_cons rfl

/-- R49, R50 and R52: a host access to a busy block. -/
theorem withoutHost_of_hostAccess {m : Move} (hb : s.status.busy = true) (hm : m.isHost = true)
    (h : agentMove exec m s = .next t) : t.withoutHost = s.withoutHost := by
  cases m with
  | hostRead off n =>
    simp only [agentMove, hostRead] at h
    split at h <;> cases h
    rfl
  | hostWrite off n v =>
    simp only [agentMove, hostWrite, hb, if_true] at h
    split at h
    · split at h <;> cases h
      · rfl
      · simp [State.withoutHost, reject, emit]
    · cases h
  | sequencer | busAnswer _ | timerAnswer | rst => cases hm

/-- Two states that differ in the host's part only make the same of any other agent's move. -/
theorem agentMove_agree {s' : State} {m : Move} (hs : s.withoutHost = s'.withoutHost)
    (hm : m.isHost = false) (h : agentMove exec m s = .next t) :
    ∃ t', agentMove exec m s' = .next t' ∧ t.withoutHost = t'.withoutHost := by
  have hbare : bare s = bare s' := by rw [← bare_withoutHost s, hs, bare_withoutHost]
  by_cases hr : m = .rst
  · subst hr
    cases h
    exact ⟨_, rfl, by rw [withoutHost_resetMove, withoutHost_resetMove, hs]⟩
  · rw [agentMove_bare hm hr, hbare] at h
    cases hu : agentMove exec m (bare s') with
    | next u =>
      rw [hu] at h
      cases h
      refine ⟨onto s' u, by rw [agentMove_bare hm hr, hu]; rfl, ?_⟩
      rw [withoutHost_onto, withoutHost_onto, hs]
    | fault r => rw [hu] at h; cases h
    | refused r => rw [hu] at h; cases h

/-- Settles O17: a host access leaves the host's part alone (`withoutHost_of_hostAccess`); for any other move
two states that differ in it only agree (`agentMove_agree`). -/
theorem hostCannotDisturb : Obligations.HostCannotDisturb := by
  refine ⟨fun s t m hb hm h => ?_, fun s s' m hs hm t h => ?_⟩
  · rw [step_one] at h
    exact withoutHost_of_hostAccess (s := { s with moves := [] }) hb hm h
  · rw [step_one] at h ⊢
    exact agentMove_agree (s := { s with moves := [] }) hs hm h

end Sys2Proof.Machine
end

section
/-! PROOF. The history and the state agree at every step (40_bus_transactions.md R81 to R95,
42_composite_reads.md R123). Here: what a step must add to the history to keep the agreement (`Follows`), the
requests made so far as the phase table lists them, and one step inside a transaction. -/

namespace Sys2Proof.Machine

variable {s t u : State} {x : Shape} {e : Event}

/-! ## Steps that the history follows -/

/-- From s to t the history grows by events that lead the wire from what s says of it to what t says. -/
def Follows (s t : State) : Prop :=
  ∃ es, t.events = s.events ++ es ∧ es.foldlM Wire.next (wireOf s) = some (wireOf t)

theorem TraceInv.follows (h : TraceInv s) (k : Follows s t) : TraceInv t := by
  obtain ⟨es, he, hw⟩ := k
  rw [TraceInv, wireAfter] at h ⊢
  rw [he, List.foldlM_append, h]
  exact hw

theorem Follows.trans (h : Follows s t) (k : Follows t u) : Follows s u := by
  obtain ⟨es, he, hw⟩ := h
  obtain ⟨es', he', hw'⟩ := k
  refine ⟨es ++ es', by rw [he', he, List.append_assoc], ?_⟩
  rw [List.foldlM_append, hw]
  exact hw'

theorem follows_of_same (he : t.events = s.events) (hw : wireOf t = wireOf s) : Follows s t :=
  ⟨[], by rw [he, List.append_nil], congrArg some hw.symm⟩

theorem follows_of_next (he : t.events = s.events ++ [e])
    (hw : (wireOf s).next e = some (wireOf t)) : Follows s t :=
  ⟨[e], he, by simpa using hw⟩

/-- An event that the wire allows where it stands and that moves nothing on it. -/
theorem follows_emit (hw : (wireOf s).next e = some (wireOf s)) : Follows s (emit e s) :=
  follows_of_next rfl hw

/-! ## The requests made so far -/

/-- The request whose answer the sequencer uses next. -/
theorem currentRequest_answered {r : BusReq} {b : Byte} (hn : s.busReq = none)
    (ha : s.busAns = some (answerOf r b)) : currentRequest s = some r := by
  cases r <;> simp [currentRequest, hn, ha]

theorem currentRequest_pending {r : BusReq} (hr : s.busReq = some r) :
    currentRequest s = some r := by
  simp [currentRequest, hr]

theorem requestsOfPhases_append (ps qs : List Phase) (s : State) :
    requestsOfPhases (ps ++ qs) s = requestsOfPhases ps s ++ requestsOfPhases qs s :=
  List.flatMap_append

theorem requestsOfPhases_self (s : State) : requestsOfPhases [s.phase] s = phaseRequests s := by
  simp [requestsOfPhases]

/-- The requests of the phases before the present one, and those of the present one up to the exchange under
way. STOP is a phase of one request; after a failed check the phases before it are not all made. -/
theorem askedSoFar_inside {r : BusReq} (hx : s.xact ≠ .none) (hr : currentRequest s = some r)
    (hs : s.phase = .stop → s.xfail = none ∧ r = .stop) :
    askedSoFar s = requestsOfPhases (s.xact.phases.takeWhile (· != s.phase)) s ++
      upTo r (phaseRequests s) := by
  unfold askedSoFar
  by_cases hp : s.phase = .stop
  · obtain ⟨hf, rfl⟩ := hs hp
    cases hxx : s.xact <;>
      simp_all [wholeTransaction, phaseRequests, upTo, Shape.phases, requestsOfPhases]
  · cases hxx : s.xact <;> simp_all

/-- R86: after a failed check STOP alone follows the requests made. -/
theorem askedSoFar_failed {f : XFail} (hx : s.xact ≠ .none) (hp : s.phase = .stop)
    (hf : s.xfail = some f) :
    askedSoFar s = requestsOfPhases (upTo f.phase s.xact.phases) s ++ [.stop] := by
  unfold askedSoFar
  cases hxx : s.xact <;> simp_all

/-- R91 and R92: a transaction at its STOP without a failure has made all its requests. -/
theorem askedSoFar_stop (hx : s.xact ≠ .none) (hp : s.phase = .stop) (hf : s.xfail = none) :
    askedSoFar s = wholeTransaction s.xact s := by
  unfold askedSoFar
  cases hxx : s.xact <;> simp_all

/-! ## What the phase table says of its rows -/

variable {row : PhaseRow}

theorem phaseRow_requests (h : phaseRow s = some row) : row.requests = phaseRequests s := by
  unfold phaseRow at h
  split at h <;> cases h
  all_goals simp_all [phaseRequests]

/-- A row belongs to a phase before STOP of a transaction. -/
theorem phaseRow_inside (h : phaseRow s = some row) : s.xact ≠ .none ∧ s.phase ≠ .stop := by
  unfold phaseRow at h
  split at h <;> simp_all

theorem phaseRow_of_inTransaction (h : InTransaction x s) (hp : s.phase ≠ .stop) :
    ∃ row, phaseRow s = some row := by
  obtain ⟨r, hr, -⟩ := h.exchange
  unfold phaseRequests at hr
  split at hr <;> simp_all [phaseRow]

/-- R90: the requests of a phase are made in order. -/
theorem upTo_next {k : Nat} {r r' : BusReq} (h : phaseRow s = some row)
    (hr : row.requests[k]? = some r) (hr' : row.requests[k + 1]? = some r') :
    upTo r' row.requests = upTo r row.requests ++ [r'] := by
  unfold phaseRow at h
  split at h <;> cases h
  all_goals rcases k with _ | _ | _ | k <;> simp at hr hr'
  all_goals
    subst hr hr'
    simp [upTo]

/-- R84: a phase ends with its status check. -/
theorem upTo_status (h : phaseRow s = some row) : upTo .status row.requests = row.requests := by
  unfold phaseRow at h
  split at h <;> cases h
  all_goals simp [upTo]

/-- R90: the phase that follows in the table is the next one of the shape, or STOP after the last. -/
theorem takeWhile_next (h : phaseRow s = some row) :
    s.xact.phases.takeWhile (· != row.next) =
      s.xact.phases.takeWhile (· != s.phase) ++ [s.phase] := by
  unfold phaseRow at h
  split at h <;> cases h
  all_goals simp_all [Shape.phases]

/-- A phase begins with the request that the row before it names. -/
theorem upTo_nextRequest (h : phaseRow s = some row) :
    upTo row.nextRequest (phaseRequests { s with phase := row.next }) = [row.nextRequest] := by
  unfold phaseRow at h
  split at h <;> cases h
  all_goals simp_all [upTo, phaseRequests]

theorem nextRequest_stop (h : phaseRow s = some row) :
    (row.nextRequest = .stop ↔ row.next = .stop) ∧ ∀ c p, row.nextRequest ≠ .init c p := by
  unfold phaseRow at h
  split at h <;> cases h
  all_goals simp

/-- Before STOP no phase requests STOP, and INIT belongs to no transaction (R87, R95). -/
theorem phaseRow_requests_ne (h : phaseRow s = some row) :
    ∀ r ∈ row.requests, r ≠ .stop ∧ ∀ c p, r ≠ .init c p := by
  unfold phaseRow at h
  split at h <;> cases h
  all_goals simp

/-- R84: every phase ends with its status check. -/
theorem phaseRow_last (h : phaseRow s = some row) : row.requests.getLast? = some .status := by
  unfold phaseRow at h
  split at h <;> cases h
  all_goals rfl

/-- A request of a phase is its check, or another one follows it. -/
theorem phaseRow_request_cases {r : BusReq} (h : phaseRow s = some row) (hr : r ∈ row.requests) :
    r = .status ∨ ∃ k r', row.requests[k]? = some r ∧ row.requests[k + 1]? = some r' := by
  obtain ⟨k, hk⟩ := List.getElem?_of_mem hr
  cases hk' : row.requests[k + 1]? with
  | some r' => exact .inr ⟨k, r', hk, hk'⟩
  | none =>
    have hlt := (List.getElem?_eq_some_iff.1 hk).1
    have hle := List.getElem?_eq_none_iff.1 hk'
    have hlast := phaseRow_last h
    rw [List.getLast?_eq_getElem?, show row.requests.length - 1 = k by omega, hk] at hlast
    exact .inl (Option.some.inj hlast)

/-! ## The wire of a running command -/

theorem wireOf_free (hb : s.status.busy = true) (hh : held s = false) :
    wireOf s = ⟨true, s.xact != .none && s.phase != .stop, none, none, askedSoFar s⟩ := by
  obtain ⟨hn, hw⟩ := held_eq_false.1 hh
  simp [wireOf, hb, hn, hw]

/-- R87, R90 and R95: what a request does inside a transaction. -/
theorem wire_request_inside {w : Wire} {r : BusReq} (hrun : w.running = true)
    (hin : w.inside = true) (hp : w.pending = none) (hw : w.waiting = none)
    (hr : ∀ c p, r ≠ .init c p) :
    w.request r = some
      { w with inside := r != .stop, pending := some r, asked := w.asked ++ [r] } := by
  cases r <;> simp_all [Wire.request]

/-- R81, R90: inside a transaction the history follows a request that prolongs the requests so far, STOP being
its last. -/
theorem follows_request {r : BusReq} (hb : s.status.busy = true) (hh : held s = false)
    (hin : s.xact ≠ .none ∧ s.phase ≠ .stop) (hu : u.xact = s.xact) (hst : u.status = s.status)
    (hconv : u.conv = s.conv) (hev : u.events = s.events) (hr : ∀ c p, r ≠ .init c p)
    (hstop : r = .stop ↔ u.phase = .stop)
    (hasked : askedSoFar (post r u) = askedSoFar s ++ [r]) : Follows s (post r u) := by
  obtain ⟨hn, hw⟩ := held_eq_false.1 hh
  obtain ⟨hx, hp⟩ := hin
  have hwire := wireOf_free hb hh
  refine follows_of_next (e := .bpReq r) (by rw [post_events, hev]) ?_
  rw [Wire.next, wire_request_inside (by rw [hwire]) (by simp [hwire, hx, hp]) (by rw [hwire])
    (by rw [hwire]) hr, hwire]
  have hs : (r != .stop) = (u.phase != .stop) := by
    rw [Bool.eq_iff_iff, bne_iff_ne, bne_iff_ne, ne_eq, hstop]
  have hx' : (s.xact != .none) = true := by simpa using hx
  simp [wireOf, hu, hst, hconv, hb, hw, hasked, hs, hx']

/-! ## One step inside a transaction -/

theorem InTransaction.shape_ne (h : InTransaction x s) : s.xact ≠ .none := by
  obtain ⟨r, hr, -⟩ := h.exchange
  intro hx
  simp [phaseRequests, hx] at hr

theorem InTransaction.noFailure (h : InTransaction x s) (hp : s.phase ≠ .stop) :
    s.xfail = none := by
  cases hf : s.xfail with
  | none => rfl
  | some f => exact absurd (h.failure f hf).1 hp

/-- A transaction at its STOP makes no request any more. -/
theorem transactionStep_stop (hp : s.phase = .stop) : transactionStep s ≠ .running u := by
  unfold transactionStep
  split
  · simp
  · unfold trigStep
    split <;> simp_all [endTransaction]
  · unfold readStep
    split <;> simp_all [endTransaction]

theorem captureAnswer_rest (a : BusAns) (s : State) :
    ∃ hi lo, captureAnswer a s = { s with dhi := hi, dlo := lo } := by
  unfold captureAnswer
  split <;> exact ⟨_, _, rfl⟩

section
variable {r r' : BusReq} {k : Nat} {b : Byte}

/-- What the requests made so far are while the answer to r, one of the phase's, is to be used. -/
theorem askedSoFar_answered (hrow : phaseRow s = some row) (hn : s.busReq = none)
    (ha : s.busAns = some (answerOf r b)) :
    askedSoFar s = requestsOfPhases (s.xact.phases.takeWhile (· != s.phase)) s ++
      upTo r row.requests := by
  obtain ⟨hx, hp⟩ := phaseRow_inside hrow
  rw [askedSoFar_inside hx (currentRequest_answered hn ha) fun h => absurd h hp,
    phaseRow_requests hrow]

theorem askedSoFar_request (hrow : phaseRow s = some row) (hn : s.busReq = none)
    (ha : s.busAns = some (answerOf r b)) (hr : row.requests[k]? = some r)
    (hr' : row.requests[k + 1]? = some r') : askedSoFar (post r' s) = askedSoFar s ++ [r'] := by
  obtain ⟨hx, hp⟩ := phaseRow_inside hrow
  rw [askedSoFar_inside (s := post r' s) hx (currentRequest_pending rfl) fun h => absurd h hp,
    askedSoFar_answered hrow hn ha, List.append_assoc, ← upTo_next hrow hr hr',
    phaseRow_requests hrow]
  rfl

/-- At its check a phase has made all its requests. -/
theorem askedSoFar_check (hrow : phaseRow s = some row) (hn : s.busReq = none)
    (ha : s.busAns = some (.status b)) :
    askedSoFar s =
      requestsOfPhases (s.xact.phases.takeWhile (· != s.phase) ++ [s.phase]) s := by
  rw [askedSoFar_answered (r := .status) hrow hn ha, upTo_status hrow, phaseRow_requests hrow,
    requestsOfPhases_append, requestsOfPhases_self]

theorem askedSoFar_pass (hrow : phaseRow s = some row) (hn : s.busReq = none)
    (ha : s.busAns = some (.status b)) (hf : s.xfail = none) :
    askedSoFar (enterPhase row.next row.nextRequest s) = askedSoFar s ++ [row.nextRequest] := by
  obtain ⟨hx, -⟩ := phaseRow_inside hrow
  rw [askedSoFar_inside (s := enterPhase row.next row.nextRequest s) hx
    (currentRequest_pending rfl) fun h => ⟨hf, (nextRequest_stop hrow).1.2 h⟩,
    askedSoFar_check hrow hn ha, ← takeWhile_next hrow, ← upTo_nextRequest hrow]
  rfl

theorem askedSoFar_abort (hrow : phaseRow s = some row) (hn : s.busReq = none)
    (ha : s.busAns = some (.status b)) :
    askedSoFar (abort b s) = askedSoFar s ++ [.stop] := by
  obtain ⟨hx, -⟩ := phaseRow_inside hrow
  rw [askedSoFar_failed (s := abort b s) hx rfl rfl, askedSoFar_check hrow hn ha]
  rfl

end

/-- R84 to R90: the history follows every step inside a transaction. -/
theorem follows_transactionStep (h : InTransaction x s) (hb : s.status.busy = true)
    (hh : held s = false) (e : transactionStep s = .running u) : Follows s u := by
  have hp : s.phase ≠ .stop := fun hp => transactionStep_stop hp e
  obtain ⟨hn, -⟩ := held_eq_false.1 hh
  obtain ⟨row, hrow⟩ := phaseRow_of_inTransaction h hp
  have hin := phaseRow_inside hrow
  obtain ⟨r, hr, hex⟩ := h.exchange
  obtain ⟨b, ha⟩ := hex.answered hn
  rw [← phaseRow_requests hrow] at hr
  rcases phaseRow_request_cases hrow hr with rfl | ⟨k, r', hk, hk'⟩
  · rw [transactionStep_check hrow ha] at e
    cases e
    cases decide (b ∈ row.passes) with
    | true =>
      exact follows_request (u := { s with phase := row.next }) hb hh hin rfl rfl rfl rfl
        (nextRequest_stop hrow).2 (nextRequest_stop hrow).1
        (askedSoFar_pass hrow hn ha (h.noFailure hp))
    | false =>
      exact follows_request
        (u := { s with phase := .stop, xfail := some ⟨b, s.phase, s.xact⟩ }) hb hh hin rfl rfl rfl
        rfl (by simp) (by simp) (askedSoFar_abort hrow hn ha)
  · rw [transactionStep_request hrow hk hk' ha] at e
    cases e
    obtain ⟨hne, hni⟩ := phaseRow_requests_ne hrow r' (List.mem_of_getElem? hk')
    have hasked := askedSoFar_request hrow hn ha hk hk'
    obtain ⟨hi, lo, hc⟩ := captureAnswer_rest (answerOf r b) s
    rw [hc]
    exact follows_request (u := { s with dhi := hi, dlo := lo }) hb hh hin rfl rfl rfl rfl hni
      (iff_of_false hne hp) hasked

end Sys2Proof.Machine
end

section
/-! PROOF. The steps of a composite read (42_composite_reads.md R125), an equation per stage, and the requests
made so far while no transaction is in progress. -/

namespace Sys2Proof.Machine

variable {s : State} {ctrl : Byte} {mode : ConvMode} {compute : Half → State → State}

/-- R125: what follows a successful trigger. -/
def conversionAsked (mode : ConvMode) (s : State) : State := convRequest mode { s with stage := 2 }

theorem compositeBody_stage0 (h : s.stage = 0) :
    compositeBody ctrl mode compute s = .next { s with stage := 1 } := if_pos h

theorem compositeBody_startTrig (h : s.stage = 1) (hx : s.xact = .none) :
    compositeBody ctrl mode compute s = .next (startTrig ctrl s) := by
  simp [compositeBody, h, hx]

theorem compositeBody_trigger (h : s.stage = 1) (hx : s.xact ≠ .none) :
    compositeBody ctrl mode compute s =
      withTransaction (trigStep s) (onOutcome (conversionAsked mode)) := by
  simp only [compositeBody, h, hx]
  rfl

theorem compositeBody_stage2 (h : s.stage = 2) :
    compositeBody ctrl mode compute s = .next { s with stage := 3 } := by
  simp [compositeBody, h]

theorem compositeBody_startRead (h : s.stage = 3) (hx : s.xact = .none) :
    compositeBody ctrl mode compute s = .next (startRead s.cfg.resMsb (resPair s.cfg) s) := by
  simp [compositeBody, h, hx]

theorem compositeBody_read (h : s.stage = 3) (hx : s.xact ≠ .none) :
    compositeBody ctrl mode compute s =
      withTransaction (readStep s) (onOutcome resultReadDone) := by
  simp only [compositeBody, h, hx]
  rfl

theorem compositeBody_compute (h : s.stage = 4) :
    compositeBody ctrl mode compute s = .next (compute s.rawl s) := by
  simp [compositeBody, h]

/-! ## The requests made so far, outside a transaction -/

theorem askedSoFar_before (hx : s.xact = .none) (hp : s.phase ≠ .initBus)
    (h : s.stage = 0 ∨ s.stage = 1) : askedSoFar s = [] := by
  rcases h with h | h <;> simp [askedSoFar, hx, hp, h]

theorem askedSoFar_measuring (hx : s.xact = .none) (hp : s.phase ≠ .initBus)
    (h : s.stage = 2 ∨ s.stage = 3) : askedSoFar s = wholeTransaction .trig s := by
  rcases h with h | h <;> simp [askedSoFar, hx, hp, h]

theorem askedSoFar_measured (hx : s.xact = .none) (hp : s.phase ≠ .initBus) (h : s.stage = 4) :
    askedSoFar s = wholeTransaction .rdpair s := by
  simp [askedSoFar, hx, hp, h]

end Sys2Proof.Machine
end


section
/-! PROOF. The agreement of history and state over whole steps: where a command pauses between transactions,
the bodies of the commands, acceptance (20_memory.md R53), and the moves of the other agents. -/

namespace Sys2Proof.Machine

variable {s t u : State} {x : Shape} {e : Event}

/-! ## Between transactions -/

/-- A running command that is not held and has no transaction open: none begun, or its STOP answered. -/
structure Pausing (s : State) : Prop where
  running : s.status.busy = true
  free : held s = false
  outside : s.xact = .none ∨ s.phase = .stop

theorem Pausing.wire (h : Pausing s) : wireOf s = ⟨true, false, none, none, askedSoFar s⟩ := by
  rw [wireOf_free h.running h.free]
  rcases h.outside with hx | hp
  · simp [hx]
  · simp [hp]

theorem Pausing.between (h : Pausing s) : (wireOf s).between = true := by
  rw [h.wire]
  rfl

/-- A transaction whose STOP has been answered is closed (R87). -/
theorem closed_of_stop (hx : s.xact ≠ .none) (hp : s.phase = .stop) :
    (wireOf s).closed = true := by
  have hlast : (askedSoFar s).getLast? = some .stop := by
    cases hf : s.xfail with
    | none => rw [askedSoFar_stop hx hp hf, wholeTransaction, List.getLast?_concat]
    | some f => rw [askedSoFar_failed hx hp hf, List.getLast?_concat]
  rw [Wire.closed, wireOf, hlast]
  rfl

/-- Nothing running, nothing pending: the wire of an idle block. -/
theorem wireOf_idle (hb : s.status.busy = false) (hn : s.busReq = none)
    (hw : s.conv.valid = false) (hx : s.xact = .none) (hp : s.phase = .idle) (h0 : s.stage = 0) :
    wireOf s = Wire.calm := by
  simp [wireOf, Wire.calm, askedSoFar, hb, hn, hw, hx, hp, h0]

theorem wireOf_congr (hb : t.status.busy = s.status.busy) (hreq : t.busReq = s.busReq)
    (hconv : t.conv = s.conv)
    (hin : (t.xact != .none && t.phase != .stop) = (s.xact != .none && s.phase != .stop))
    (ha : askedSoFar t = askedSoFar s) : wireOf t = wireOf s := by
  simp only [wireOf, hb, hreq, hconv, hin, ha]

/-- R54: a completion. -/
theorem follows_complete {c : ErrCode} {p : Phase} (h : Pausing s) (hev : u.events = s.events)
    (hreq : u.busReq = s.busReq) (hconv : u.conv = s.conv) : Follows s (complete c p u) := by
  obtain ⟨hn, hw⟩ := held_eq_false.1 h.free
  have hcalm : wireOf (complete c p u) = Wire.calm :=
    wireOf_idle rfl (hreq.trans hn) (hconv ▸ hw) rfl rfl rfl
  refine follows_of_next (e := .cmdDone c) (by rw [complete_events, hev]) ?_
  rw [hcalm]
  exact if_pos h.between

theorem follows_raise (er : Raised) (h : Pausing s) (hev : u.events = s.events)
    (hreq : u.busReq = s.busReq) (hconv : u.conv = s.conv) : Follows s (raiseError er u) := by
  cases er <;> exact follows_complete h hev hreq hconv

/-- R90: START opens a transaction. -/
theorem follows_start (h : Pausing s) (hx : u.xact ≠ .none) (hp : u.phase = .start)
    (hst : u.status = s.status) (hev : u.events = s.events) (hconv : u.conv = s.conv) :
    Follows s (post .start u) := by
  obtain ⟨hn, hw⟩ := held_eq_false.1 h.free
  have hasked : askedSoFar (post .start u) = [.start] := by
    rw [askedSoFar_inside (s := post .start u) hx (currentRequest_pending rfl)
      fun hp' => absurd (hp.symm.trans hp') (by decide)]
    cases hxx : u.xact <;> simp_all [Shape.phases, requestsOfPhases, phaseRequests, upTo]
  have hx' : (u.xact != .none) = true := by simpa using hx
  refine follows_of_next (e := .bpReq .start) (by rw [post_events, hev]) ?_
  rw [h.wire]
  simp [Wire.next, Wire.request, wireOf, hst, h.running, hconv, hw, hx', hp, hasked]

/-! ## The end of a transaction -/

variable {k : Option XFail → State → State}

/-- One step of a command inside a trigger: within it the history follows; at its end it must follow what the
command makes of the outcome. -/
theorem follows_trig (hi : InTransaction .trig s) (hb : s.status.busy = true)
    (hh : held s = false) (e : withTransaction (trigStep s) k = .next t)
    (hk : s.phase = .stop → Follows s (k s.xfail { s with xact := .none, xfail := none })) :
    Follows s t := by
  rcases trig_with hi (held_eq_false.1 hh).1 k with ⟨u, -, -, -, hu, hs, -, -⟩ | ⟨hs, hp, -⟩
  · cases hs.symm.trans e
    exact follows_transactionStep hi hb hh ((transactionStep_trig hi.shape).trans hu)
  · cases hs.symm.trans e
    exact hk hp

theorem follows_read (hi : InTransaction .rdpair s) (hb : s.status.busy = true)
    (hh : held s = false) (e : withTransaction (readStep s) k = .next t)
    (hk : s.phase = .stop → Follows s (k s.xfail { s with xact := .none, xfail := none })) :
    Follows s t := by
  rcases read_with hi (held_eq_false.1 hh).1 k with
    ⟨u, -, -, -, -, -, hu, hs, -, -⟩ | ⟨hs, hp, -⟩
  · cases hs.symm.trans e
    exact follows_transactionStep hi hb hh ((transactionStep_read hi.shape).trans hu)
  · cases hs.symm.trans e
    exact hk hp

/-- A failed transaction completes its command with BUS_PHASE; a successful one goes on. -/
theorem follows_onOutcome {ok : State → State} (h : Pausing s)
    (hok : s.xfail = none → Follows s (ok { s with xact := .none, xfail := none })) :
    Follows s (onOutcome ok s.xfail { s with xact := .none, xfail := none }) := by
  cases hf : s.xfail with
  | none => exact hok hf
  | some f => exact follows_raise (.busPhase f) h rfl rfl rfl

/-! ## INIT, TRIG and RDPAIR -/

theorem follows_initBody (h : Inv s) (hb : s.status.busy = true) (hh : held s = false)
    (ho : s.opl = 0x1#4) (e : initBody s = .next t) : Follows s t := by
  obtain ⟨h0, -, hx, hw, ⟨hp, -⟩ | ⟨hp, hex⟩⟩ := (commandAt_init ho).1 (h.running hb)
  · have hpause : Pausing s := ⟨hb, hh, .inl hx⟩
    rw [initBody_idle hp] at e
    cases e
    refine follows_of_next rfl ?_
    rw [hpause.wire]
    simp [Wire.next, Wire.request, wireOf, askedSoFar, hb, hw, hx, hp, h0]
  · obtain ⟨b, ha⟩ := hex.answered (held_eq_false.1 hh).1
    rw [initBody_answered hp ha] at e
    cases e
    exact follows_complete ⟨hb, hh, .inl hx⟩ rfl rfl rfl

theorem follows_trigBody (h : Inv s) (hb : s.status.busy = true) (hh : held s = false)
    (ho : s.opl = 0x2#4) (e : trigBody s = .next t) : Follows s t := by
  unfold trigBody at e
  obtain ⟨-, ⟨-, hq⟩ | ⟨hi, -⟩⟩ := (commandAt_trig ho).1 (h.running hb)
  · rw [if_pos hq.noTransaction] at e
    cases e
    exact follows_start ⟨hb, hh, .inl hq.noTransaction⟩ (by simp) rfl rfl rfl rfl
  · rw [if_neg hi.shape_ne] at e
    refine follows_trig hi hb hh e fun hp => ?_
    have hpause : Pausing s := ⟨hb, hh, .inr hp⟩
    exact follows_onOutcome hpause fun _ => follows_complete hpause rfl rfl rfl

theorem follows_rdpairBody (h : Inv s) (hb : s.status.busy = true) (hh : held s = false)
    (ho : s.opl = 0x3#4) (e : rdpairBody s = .next t) : Follows s t := by
  unfold rdpairBody at e
  obtain ⟨-, ⟨-, hq⟩ | ⟨hi, -⟩⟩ := (commandAt_rdpair ho).1 (h.running hb)
  · rw [if_pos hq.noTransaction] at e
    cases e
    exact follows_start ⟨hb, hh, .inl hq.noTransaction⟩ (by simp) rfl rfl rfl rfl
  · rw [if_neg hi.shape_ne] at e
    refine follows_read hi hb hh e fun hp => ?_
    have hpause : Pausing s := ⟨hb, hh, .inr hp⟩
    exact follows_onOutcome hpause fun _ => follows_complete hpause rfl rfl rfl

/-! ## LDCAL -/

theorem follows_ldcalFinish (h : Pausing s) (hev : u.events = s.events)
    (hreq : u.busReq = s.busReq) (hconv : u.conv = s.conv) : Follows s (ldcalFinish u) := by
  unfold ldcalFinish
  split
  · exact follows_raise _ h hev hreq hconv
  · split
    · exact follows_raise .badCal h hev hreq hconv
    · exact follows_complete h hev hreq hconv

theorem calReadOutcome_events (f : Option XFail) (s : State) :
    ∃ r, (calReadOutcome f s).events = s.events ++ [.calRead s.idx r] := by
  cases f with
  | none => exact ⟨_, calReadOk_events s⟩
  | some f =>
    rw [calReadOutcome, calReadFail, keepFirstFailure_eq]
    exact ⟨_, rfl⟩

/-- R107: the outcome of a read is recorded after its STOP, and then comes the next START or the end. -/
theorem follows_calReadEnd (hi : InTransaction x s) (hb : s.status.busy = true)
    (hh : held s = false) (hp : s.phase = .stop) :
    Follows s (calReadEnd s.xfail { s with xact := .none, xfail := none }) := by
  have hpause : Pausing s := ⟨hb, hh, .inr hp⟩
  obtain ⟨r, hev⟩ := calReadOutcome_events s.xfail { s with xact := .none, xfail := none }
  have hrec : Follows s (emit (.calRead s.idx r) s) := by
    refine follows_emit (if_pos ?_)
    rw [hpause.between, closed_of_stop hi.shape_ne hp]
    rfl
  have hpause' : Pausing (emit (.calRead s.idx r) s) := ⟨hb, hh, .inr hp⟩
  refine hrec.trans ?_
  rw [calReadEnd]
  obtain ⟨_, _, _, _, _, _, _, e⟩ :=
    calReadOutcome_rest s.xfail { s with xact := .none, xfail := none }
  rw [e] at hev ⊢
  unfold calReadNext
  split
  · exact follows_start hpause' (by simp) rfl rfl hev rfl
  · exact follows_ldcalFinish hpause' hev rfl rfl

theorem follows_ldcalBody (h : Inv s) (hb : s.status.busy = true) (hh : held s = false)
    (ho : s.opl = 0x4#4) (e : ldcalBody s = .next t) : Follows s t := by
  unfold ldcalBody at e
  obtain ⟨-, -, -, hq⟩ | ⟨-, -, hi, -⟩ := (commandAt_ldcal ho).1 (h.running hb)
  · rw [if_pos hq.noTransaction] at e
    cases e
    exact follows_start ⟨hb, hh, .inl hq.noTransaction⟩ (by simp) rfl rfl rfl rfl
  · rw [if_neg hi.shape_ne] at e
    exact follows_read hi hb hh e fun hp => follows_calReadEnd hi hb hh hp

/-! ## The compute steps -/

theorem follows_computeTemp (raw : Half) (h : Pausing s) : Follows s (computeTemp raw s) := by
  cases hr : tempf s.cfg s.cal raw with
  | none =>
    rw [computeTemp_divZero hr]
    exact follows_raise .divZero h rfl rfl rfl
  | some r =>
    rw [computeTemp_result hr]
    refine (follows_emit (e := .tempResult r.1 r.2) (if_pos h.between)).trans ?_
    exact follows_complete ⟨h.running, h.free, h.outside⟩ rfl rfl rfl

theorem follows_computePress (raw : Half) (h : Pausing s) : Follows s (computePress raw s) := by
  cases hr : presf s.cfg s.cal s.b5 raw with
  | none =>
    rw [computePress_divZero hr]
    exact follows_raise .divZero h rfl rfl rfl
  | some p =>
    rw [computePress_result hr]
    refine (follows_emit (e := .pressResult p) (if_pos h.between)).trans ?_
    exact follows_complete ⟨h.running, h.free, h.outside⟩ rfl rfl rfl

theorem follows_computeBody {compute : Half → State → State} (h : Inv s)
    (hb : s.status.busy = true) (hh : held s = false) (ho : s.opl = 0x5#4 ∨ s.opl = 0x6#4)
    (hc : Pausing s → Follows s (compute s.hl s)) (e : computeBody compute s = .next t) :
    Follows s t := by
  obtain ⟨h0, hq, hp | hp⟩ := (commandAt_compute ho).1 (h.running hb)
  · have hx := hq.noTransaction
    simp only [computeBody, hp] at e
    cases e
    refine follows_of_same rfl (wireOf_congr rfl rfl rfl (by simp [hx]) ?_)
    rw [askedSoFar_before hx (by simp [hp]) (.inl h0),
      askedSoFar_before (s := enterCompute s) hx (by simp) (.inl h0)]
  · simp only [computeBody, hp] at e
    cases e
    exact hc ⟨hb, hh, .inl hq.noTransaction⟩

/-! ## RDTEMP and RDPRES, stage by stage (R125, R126) -/

/-- R122 and R123: the conversion wait follows the trigger's answered STOP. -/
theorem follows_conversionAsked (mode : ConvMode) (hi : InTransaction .trig s)
    (hb : s.status.busy = true) (hh : held s = false) (hp : s.phase = .stop)
    (hf : s.xfail = none) :
    Follows s (conversionAsked mode { s with xact := .none, xfail := none }) := by
  have hpause : Pausing s := ⟨hb, hh, .inr hp⟩
  obtain ⟨hn, -⟩ := held_eq_false.1 hh
  have hcond : ((wireOf s).between && (wireOf s).closed) = true := by
    rw [hpause.between, closed_of_stop hi.shape_ne hp]
    rfl
  have hasked : askedSoFar (conversionAsked mode { s with xact := .none, xfail := none }) =
      askedSoFar s := by
    rw [askedSoFar_stop hi.shape_ne hp hf, hi.shape]
    exact askedSoFar_measuring rfl (by simp [conversionAsked]) (.inl rfl)
  refine follows_of_next (e := .convReq mode) rfl ((if_pos hcond).trans ?_)
  rw [hpause.wire, wireOf, hasked]
  simp [conversionAsked, hb, hn]

/-- R125: the end of the result read requests nothing. -/
theorem follows_resultReadDone (hi : InTransaction .rdpair s) (hp : s.phase = .stop)
    (hf : s.xfail = none) :
    Follows s (resultReadDone { s with xact := .none, xfail := none }) := by
  refine follows_of_same rfl (wireOf_congr rfl rfl rfl (by simp [hp]) ?_)
  rw [askedSoFar_stop hi.shape_ne hp hf, hi.shape]
  exact askedSoFar_measured rfl (by simp) rfl

theorem follows_compositeBody {ctrl : Byte} {mode : ConvMode} {compute : Half → State → State}
    (hb : s.status.busy = true) (hh : held s = false) (hat : CommandAt.CompositeAt ctrl mode s)
    (hc : Pausing s → Follows s (compute s.rawl s))
    (e : compositeBody ctrl mode compute s = .next t) : Follows s t := by
  rcases hat with ⟨h0, hp, hq⟩ | ⟨h1, ⟨-, hq⟩ | ⟨hi, -⟩⟩ | ⟨h2, hp, -, -, hx, -⟩ |
    ⟨h3, ⟨-, hq⟩ | ⟨hi, -⟩⟩ | ⟨h4, -, hq⟩
  · rw [compositeBody_stage0 h0] at e
    cases e
    have hx := hq.noTransaction
    have hne : s.phase ≠ .initBus := by simp [hp]
    refine follows_of_same rfl (wireOf_congr rfl rfl rfl rfl ?_)
    rw [askedSoFar_before hx hne (.inl h0),
      askedSoFar_before (s := { s with stage := 1 }) hx hne (.inr rfl)]
  · rw [compositeBody_startTrig h1 hq.noTransaction] at e
    cases e
    exact follows_start ⟨hb, hh, .inl hq.noTransaction⟩ (by simp) rfl rfl rfl rfl
  · rw [compositeBody_trigger h1 hi.shape_ne] at e
    refine follows_trig hi hb hh e fun hp => ?_
    exact follows_onOutcome ⟨hb, hh, .inr hp⟩ (follows_conversionAsked mode hi hb hh hp)
  · rw [compositeBody_stage2 h2] at e
    cases e
    have hne : s.phase ≠ .initBus := by simp [hp]
    refine follows_of_same rfl (wireOf_congr rfl rfl rfl rfl ?_)
    rw [askedSoFar_measuring hx hne (.inl h2)]
    exact askedSoFar_measuring (s := { s with stage := 3 }) hx hne (.inr rfl)
  · rw [compositeBody_startRead h3 hq.noTransaction] at e
    cases e
    exact follows_start ⟨hb, hh, .inl hq.noTransaction⟩ (by simp) rfl rfl rfl rfl
  · rw [compositeBody_read h3 hi.shape_ne] at e
    refine follows_read hi hb hh e fun hp => ?_
    exact follows_onOutcome ⟨hb, hh, .inr hp⟩ (follows_resultReadDone hi hp)
  · rw [compositeBody_compute h4] at e
    cases e
    exact hc ⟨hb, hh, .inl hq.noTransaction⟩

/-! ## Commands -/

theorem follows_bodyOfOp {i : Instr} (h : Inv s) (hb : s.status.busy = true)
    (hh : held s = false) (ho : s.opl = i.op) (e : bodyOfOp i.op s = .next t) : Follows s t := by
  cases i with
  | init _ _ _ => exact follows_initBody h hb hh ho e
  | trig _ _ => exact follows_trigBody h hb hh ho e
  | rdpair _ _ => exact follows_rdpairBody h hb hh ho e
  | ldcal _ _ => exact follows_ldcalBody h hb hh ho e
  | ctemp _ _ => exact follows_computeBody h hb hh (.inl ho) (follows_computeTemp _) e
  | cpres _ _ => exact follows_computeBody h hb hh (.inr ho) (follows_computePress _) e
  | rdtemp _ _ =>
    exact follows_compositeBody hb hh ((commandAt_rdtemp ho).1 (h.running hb))
      (follows_computeTemp _) e
  | rdpres _ _ =>
    exact follows_compositeBody hb hh ((commandAt_rdpres ho).1 (h.running hb))
      (follows_computePress _) e

/-- R53: an acceptance, whose command starts or completes at once. -/
theorem follows_accept (v : Word) (h : Inv s) (hb : s.status.busy = false) :
    Follows s (accept v s) := by
  obtain ⟨hq, h0⟩ := h.idleQuiet hb
  have hp := h.idlePhase hb
  have hcalm := wireOf_idle hb hq.noRequest hq.noWait hq.noTransaction hp h0
  have ended (c : ErrCode) : Follows s (complete c .idle (accepted v s)) := by
    refine ⟨[.cmdAccepted v, .cmdDone c], by simp, ?_⟩
    rw [hcalm, wireOf_idle (s := complete c .idle (accepted v s)) rfl hq.noRequest hq.noWait rfl rfl
      rfl]
    rfl
  have starts : Follows s (startCommand (accepted v s)) := by
    refine follows_of_next (e := .cmdAccepted v) (by simp) ?_
    rw [hcalm]
    unfold startCommand
    split <;>
      simp [Wire.next, Wire.calm, wireOf, askedSoFar, hq.noRequest, hq.noWait, hq.noTransaction, hp]
  rcases accept_cases v s with ⟨-, e⟩ | ⟨-, -, -, e⟩ | ⟨-, -, -, e⟩ | ⟨-, -, -, e⟩ <;> rw [e]
  · exact ended _
  · exact ended _
  · exact ended _
  · exact starts

/-! ## Moves of the other agents -/

/-- R81: an answer leaves the exchange under way, and so the requests made so far. -/
theorem askedSoFar_answer {r : BusReq} (b : Byte) (hr : s.busReq = some r) :
    askedSoFar (busAnswer b s) = askedSoFar s := by
  have hcur : currentRequest (busAnswer b s) = currentRequest s := by
    rw [currentRequest_pending hr]
    rw [busAnswer_some b hr]
    exact currentRequest_answered (b := b) rfl rfl
  unfold askedSoFar
  rw [hcur, busAnswer_some b hr]
  rfl

theorem follows_busAnswer (b : Byte) (s : State) : Follows s (busAnswer b s) := by
  cases hr : s.busReq with
  | none =>
    rw [busAnswer_none b hr]
    exact follows_of_same rfl rfl
  | some r =>
    have hasked := askedSoFar_answer b hr
    rw [busAnswer_some b hr] at hasked ⊢
    refine follows_of_next rfl ((if_pos ⟨hr, answerOf_byte r b⟩).trans ?_)
    simp only [wireOf, hasked]
    rfl

theorem follows_timerAnswer (s : State) : Follows s (timerAnswer s) := by
  unfold timerAnswer
  split
  case isTrue hv =>
    have hw : (wireOf s).waiting = some s.conv.mode := if_pos hv
    exact follows_of_next rfl (if_pos hw)
  case isFalse => exact follows_of_same rfl rfl

theorem follows_reject (v : Word) (hb : s.status.busy = true) : Follows s (reject v s) :=
  follows_of_next rfl (if_pos hb)

theorem follows_resetMove (s : State) : Follows s (resetMove s) :=
  follows_of_next (resetMove_events s) rfl

/-! ## Steps -/

theorem follows_sequencerTurn (h : Inv s) (e : sequencerTurn exec s = .next t) : Follows s t := by
  unfold sequencerTurn at e
  split at e
  case isTrue hb =>
    split at e
    next i hd =>
      rw [exec_eq_runCommand] at e
      rcases runCommand_next e with ⟨hb', -⟩ | ⟨-, -, rfl⟩ | ⟨-, hh, hbody⟩
      · simp [hb] at hb'
      · exact follows_of_same rfl rfl
      · exact follows_bodyOfOp h hb hh (opl_of_decode hd) hbody
    next => cases e
  case isFalse =>
    cases e
    exact follows_of_same rfl rfl

theorem follows_hostWrite {off : Byte} {n : Nat} {v : Word} (h : Inv s)
    (e : hostWrite exec off n v s = .next t) : Follows s t := by
  cases hd : accessDefined off n with
  | false => rw [hostWrite_refused v hd] at e; cases e
  | true =>
    by_cases ho : off = WindowReg.cmd.offset
    case neg => rw [hostWrite_other v hd ho] at e; cases e; exact follows_of_same rfl rfl
    subst ho
    cases hb : s.status.busy with
    | true => rw [hostWrite_cmd_busy v hd hb] at e; cases e; exact follows_reject v hb
    | false => rw [hostWrite_cmd_idle v hd hb] at e; cases e; exact follows_accept v h hb

theorem follows_agentMove {m : Move} (h : Inv s) (e : agentMove exec m s = .next t) :
    Follows s t := by
  cases m with
  | hostRead off n =>
    simp only [agentMove, hostRead] at e
    split at e <;> cases e
    exact follows_of_same rfl rfl
  | hostWrite off n v => exact follows_hostWrite h e
  | sequencer => exact follows_sequencerTurn h e
  | busAnswer b => cases e; exact follows_busAnswer b s
  | timerAnswer => cases e; exact follows_timerAnswer s
  | rst => cases e; exact follows_resetMove s

/-- The history follows every step from a state that meets the invariant. -/
theorem follows_step (h : Inv s) (e : step s = .next t) : Follows s t := by
  cases hm : s.moves with
  | nil => exact follows_sequencerTurn h (step_nil hm ▸ e)
  | cons m rest =>
    have k := follows_agentMove ((agentsOnly_moves s rest).inv h) (step_cons hm ▸ e)
    exact (follows_of_same rfl rfl : Follows s { s with moves := rest }).trans k

/-- Settles O52: what a step adds to the history leads the wire to the next state's (`follows_step`). -/
theorem stepKeepsTrace : Obligations.StepKeepsTrace := fun _ _ h ht e => ht.follows (follows_step h e)

/-- Settles O45: every register is 0 and the history is empty (R44). -/
theorem resetMeetsTheInvariants : Obligations.ResetMeetsTheInvariants :=
  ⟨inv_reset _ _ _ _, rfl⟩

end Sys2Proof.Machine
end

section
/-! PROOF. What a history that the rules allow tells of its last command (42_composite_reads.md R123), and the
conversion wait: the trigger's STOP is answered and the bus is free. -/

namespace Sys2Proof.Machine

variable {s : State} {es : List Event} {e : Event} {w w' : Wire}

/-! ## The events since the last acceptance -/

theorem wireAfter_snoc (es : List Event) (e : Event) :
    wireAfter (es ++ [e]) = (wireAfter es).bind (·.next e) := by
  rw [wireAfter, List.foldlM_append]
  simp [wireAfter]

theorem sinceAccepted_accepted (es : List Event) (v : Word) :
    sinceAccepted (es ++ [.cmdAccepted v]) = [] := by
  simp [sinceAccepted]

theorem sinceAccepted_other (es : List Event) (he : ∀ v, e ≠ .cmdAccepted v) :
    sinceAccepted (es ++ [e]) = sinceAccepted es ++ [e] := by
  cases e <;> simp_all [sinceAccepted]

theorem requestsIn_append (es es' : List Event) :
    requestsIn (es ++ es') = requestsIn es ++ requestsIn es' := List.filterMap_append

theorem busEvents_append (es es' : List Event) :
    busEvents (es ++ es') = busEvents es ++ busEvents es' := List.filter_append ..

/-- The last bus event of a history whose last request is r: the request, while it is pending, and then its
answer. -/
def LastBusEvent (last : Option Event) (pending : Option BusReq) (r : BusReq) : Prop :=
  match pending with
  | some q => q = r
  | none => ∃ a : Option Byte, a.isSome = byteExpected r ∧ last = some (.bpRsp r a)

/-- What a history says of the running command if it leads the wire to w: its acceptance stands in it, the
requests of the transaction open or last closed are its last, and the last of them is pending or answered. -/
structure Tells (es : List Event) (w : Wire) : Prop where
  accepted : ∃ v, .cmdAccepted v ∈ es
  requests : ∃ before, requestsIn (sinceAccepted es) = before ++ w.asked
  last : ∀ r, w.asked.getLast? = some r →
    LastBusEvent (busEvents (sinceAccepted es)).getLast? w.pending r

/-- An event that is no bus event and no acceptance changes nothing of that. -/
theorem Tells.other (h : Tells es w) (hn : requestsIn [e] = []) (hb : busEvents [e] = [])
    (ha : ∀ v, e ≠ .cmdAccepted v) (hasked : w'.asked = w.asked) (hp : w'.pending = w.pending) :
    Tells (es ++ [e]) w' where
  accepted := h.accepted.imp fun _ hv => List.mem_append_left _ hv
  requests := by
    rw [sinceAccepted_other es ha, requestsIn_append, hn, List.append_nil, hasked]
    exact h.requests
  last r hr := by
    rw [sinceAccepted_other es ha, busEvents_append, hb, List.append_nil, hp]
    exact h.last r (hasked ▸ hr)

theorem tells_accepted (es : List Event) (v : Word) (hasked : w.asked = []) :
    Tells (es ++ [.cmdAccepted v]) w :=
  ⟨⟨v, by simp⟩, ⟨[], by rw [sinceAccepted_accepted, hasked]; rfl⟩, by simp [hasked]⟩

theorem wire_request {r : BusReq} (h : w.request r = some w') :
    w.running = true ∧ w'.pending = some r ∧ (w'.asked = w.asked ++ [r] ∨ w'.asked = [r]) := by
  unfold Wire.request at h
  split at h
  case isTrue hc =>
    have hrun : w.running = true := by simp_all
    split at h
    case h_1 =>
      cases h
      refine ⟨hrun, rfl, ?_⟩
      dsimp only
      split
      · exact .inl rfl
      · exact .inr rfl
    all_goals
      split at h <;> cases h
      exact ⟨hrun, rfl, .inl rfl⟩
  case isFalse => cases h

/-- R81: a request is the last one. -/
theorem Tells.request {r : BusReq} (h : Tells es w) (hr : w.request r = some w') :
    Tells (es ++ [.bpReq r]) w' := by
  obtain ⟨-, hp, hasked⟩ := wire_request hr
  have hlast : w'.asked.getLast? = some r := by
    rcases hasked with h | h <;> simp [h]
  refine ⟨h.accepted.imp fun _ hv => List.mem_append_left _ hv, ?_, fun q hq => ?_⟩
  · obtain ⟨before, hb⟩ := h.requests
    rw [sinceAccepted_other es (by simp), requestsIn_append, hb]
    rcases hasked with h | h <;> rw [h]
    · exact ⟨before, List.append_assoc ..⟩
    · exact ⟨before ++ w.asked, rfl⟩
  · rw [hp]
    exact Option.some.inj (hlast.symm.trans hq)

/-- R81: an answer follows its request. -/
theorem Tells.answer {r : BusReq} {a : Option Byte} (h : Tells es w) (hp : w.pending = some r)
    (ha : a.isSome = byteExpected r) : Tells (es ++ [.bpRsp r a]) { w with pending := none } where
  accepted := h.accepted.imp fun _ hv => List.mem_append_left _ hv
  requests := by
    rw [sinceAccepted_other es (by simp), requestsIn_append]
    obtain ⟨before, hb⟩ := h.requests
    exact ⟨before, by rw [hb]; exact List.append_nil _⟩
  last q hq := by
    have hl := h.last q hq
    rw [hp] at hl
    cases hl
    refine ⟨a, ha, ?_⟩
    rw [sinceAccepted_other es (by simp), busEvents_append]
    exact List.getLast?_concat

/-- Whatever event comes, the history goes on telling of the running command. -/
theorem tells_next (h : w.running = true → Tells es w) (hw : w.next e = some w')
    (hrun : w'.running = true) : Tells (es ++ [e]) w' := by
  cases e with
  | cmdAccepted v =>
    simp only [Wire.next] at hw
    split at hw <;> cases hw
    exact tells_accepted es v rfl
  | bpReq r =>
    exact (h (wire_request hw).1).request hw
  | bpRsp r a =>
    simp only [Wire.next] at hw
    split at hw <;> cases hw
    rename_i hc
    exact (h hrun).answer hc.1 hc.2
  | cmdDone c =>
    simp only [Wire.next] at hw
    split at hw <;> cases hw
    cases hrun
  | reset =>
    cases hw
    cases hrun
  | cmdRejected _ | calRead _ _ | tempResult _ _ | pressResult _ | convReq _ | convDone _ =>
    simp only [Wire.next] at hw
    split at hw <;> cases hw
    exact (h hrun).other rfl rfl (by simp) rfl rfl

theorem tells_wireAfter (hw : wireAfter es = some w) (hrun : w.running = true) : Tells es w := by
  induction es using List.reverseRecOn generalizing w with
  | nil =>
    cases hw
    cases hrun
  | append_singleton es e ih =>
    rw [wireAfter_snoc, Option.bind_eq_some_iff] at hw
    obtain ⟨w₀, h₀, hn⟩ := hw
    exact tells_next (ih h₀) hn hrun

/-! ## The conversion wait -/

theorem Inv.busy_of_held (h : Inv s) (hh : held s = true) : s.status.busy = true := by
  cases hb : s.status.busy with
  | true => rfl
  | false =>
    obtain ⟨hq, -⟩ := h.idleQuiet hb
    simp [held, hq.noRequest, hq.noWait] at hh

/-- Where a command stands that waits for a conversion (R122, R125): its trigger is over, and the control byte
was the one of the wait's mode. -/
structure Waiting (s : State) : Prop where
  busy : s.status.busy = true
  stage : s.stage = 2
  phase : s.phase = .waitConv
  noTransaction : s.xact = .none
  noRequest : s.busReq = none
  ctrl : (s.conv.mode = .temp ∧ s.tb = s.cfg.tempCtrl) ∨
    (s.conv.mode = .press ∧ s.tb = s.cfg.pressCtrl)

theorem waiting_of_compositeAt {ctrl : Byte} {mode : ConvMode} (hb : s.status.busy = true)
    (hv : s.conv.valid = true) (hat : CommandAt.CompositeAt ctrl mode s)
    (hc : (mode = .temp ∧ ctrl = s.cfg.tempCtrl) ∨ (mode = .press ∧ ctrl = s.cfg.pressCtrl)) :
    Waiting s := by
  have hq : ¬ Quiet s := fun hq => by simp [hq.noWait] at hv
  have hi {x : Shape} : ¬ InTransaction x s := fun hi => by simp [hi.noWait] at hv
  rcases hat with ⟨-, -, h⟩ | ⟨-, ⟨-, h⟩ | ⟨h, -⟩⟩ | ⟨h2, hp, rfl, rfl, hx, hn, -, -⟩ |
    ⟨-, ⟨-, h⟩ | ⟨h, -⟩⟩ | ⟨-, -, h⟩
  case inr.inr.inl => exact ⟨hb, h2, hp, hx, hn, hc⟩
  case inl | inr.inl.inl | inr.inr.inr.inl.inl | inr.inr.inr.inr => exact absurd h hq
  all_goals exact absurd h hi

/-- No other command than RDTEMP and RDPRES ever waits. -/
theorem Inv.waiting (h : Inv s) (hv : s.conv.valid = true) : Waiting s := by
  have hb := h.busy_of_held (held_iff.2 (.inr hv))
  have hat := h.running hb
  have hq : ¬ Quiet s := fun hq => by simp [hq.noWait] at hv
  have hi {x : Shape} : ¬ InTransaction x s := fun hi => by simp [hi.noWait] at hv
  rcases commandAt_op hat with ho | ho | ho | ho | ho | ho | ho
  · obtain ⟨-, -, -, hw, -⟩ := (commandAt_init ho).1 hat
    simp [hw] at hv
  · obtain ⟨-, ⟨-, h⟩ | ⟨h, -⟩⟩ := (commandAt_trig ho).1 hat
    exacts [absurd h hq, absurd h hi]
  · obtain ⟨-, ⟨-, h⟩ | ⟨h, -⟩⟩ := (commandAt_rdpair ho).1 hat
    exacts [absurd h hq, absurd h hi]
  · obtain ⟨-, -, -, h⟩ | ⟨-, -, h, -⟩ := (commandAt_ldcal ho).1 hat
    exacts [absurd h hq, absurd h hi]
  · obtain ⟨-, h, -⟩ := (commandAt_compute ho).1 hat
    exact absurd h hq
  · exact waiting_of_compositeAt hb hv ((commandAt_rdtemp ho).1 hat) (.inl ⟨rfl, rfl⟩)
  · exact waiting_of_compositeAt hb hv ((commandAt_rdpres ho).1 hat) (.inr ⟨rfl, rfl⟩)

/-- R91: the nine requests of a trigger that passes every check are those of its shape. -/
theorem wholeTransaction_trig (s : State) :
    wholeTransaction .trig s = triggerRequests s.cfg s.tb := rfl

/-- A held sequencer's turn changes nothing (R81, R122). -/
theorem step_sequencer_held (h : Inv s) (hh : held s = true) (ms : List Move) :
    step { s with moves := .sequencer :: ms } = .next { s with moves := ms } := by
  have hb := h.busy_of_held hh
  obtain ⟨i, hi⟩ := decode_latched h hb
  rw [step_sequencer hb hi]
  exact exec_held i (s := { s with moves := ms }) hb hh

/-- Settles O51: a wait stands at stage 2 after the trigger (`Inv.waiting`), and the history tells the rest
(`tells_wireAfter`). -/
theorem busIsFreeDuringTheWait : Obligations.BusIsFreeDuringTheWait := by
  intro s h ht hv history ctrl
  have hw := h.waiting hv
  have htells := tells_wireAfter ht hw.busy
  have hctrl : ctrl = s.tb := by
    rcases hw.ctrl with ⟨hm, e⟩ | ⟨hm, e⟩ <;> simp only [ctrl, hm, e]
  have hasked : (wireOf s).asked = triggerRequests s.cfg ctrl := by
    rw [hctrl, ← wholeTransaction_trig]
    exact askedSoFar_measuring hw.noTransaction (by simp [hw.phase]) (.inl hw.stage)
  refine ⟨hw.noRequest, hw.noTransaction, htells.accepted, hasked ▸ htells.requests, ?_,
    step_sequencer_held h (held_iff.2 (.inr hv)) []⟩
  have hlast := htells.last .stop (by rw [hasked]; rfl)
  rw [show (wireOf s).pending = none from hw.noRequest] at hlast
  obtain ⟨a, ha, hlast⟩ := hlast
  cases a with
  | none => exact hlast
  | some b => cases ha

end Sys2Proof.Machine
end

section
/-! PROOF. Runs in which an agent's answer never comes, or comes to nothing: the hold of an unanswered request or
conversion wait (40_bus_transactions.md R82, 70_reset_and_hazards.md R157), and the moves after a reset (R149,
R150). -/

namespace Sys2Proof.Machine

variable {s t u : State} {m : Move}

/-! ## Running through a list of moves -/

/-- If every admitted move has a step that keeps P, a list of such moves runs through and keeps P. -/
theorem run_moves {P : State → Prop} {ok : Move → Prop}
    (hP : ∀ u ms, P u → P { u with moves := ms })
    (hstep : ∀ u m, P u → ok m → ∃ t, agentMove exec m u = .next t ∧ P t ∧ t.moves = u.moves)
    (ms : List Move) (hu : P u) (hok : ∀ m ∈ ms, ok m) :
    ∃ t, core.run ms.length { u with moves := ms } = .next t ∧ P t ∧ t.moves = [] := by
  induction ms generalizing u with
  | nil => exact ⟨_, rfl, hP u [] hu, rfl⟩
  | cons m ms ih =>
    obtain ⟨hm, hms⟩ := List.forall_mem_cons.1 hok
    obtain ⟨t, ht, hPt, hmoves⟩ := hstep { u with moves := ms } m (hP u ms hu) hm
    have hs : step { u with moves := m :: ms } = .next t := (step_cons rfl).trans ht
    obtain ⟨t', hrun, h'⟩ := ih hPt hms
    have e : { t with moves := ms } = t := by rw [show ms = t.moves from hmoves.symm]
    rw [e] at hrun
    exact ⟨t', by rw [List.length_cons, run_succ _ hs, hrun], h'⟩

/-! ## The hold -/

/-- While the sequencer is held, a defined move other than a reset leaves the block where it is; only the answer
that is waited for releases it. -/
theorem agentMove_held (h : Inv s) (hh : held s = true) (hr : m ≠ .rst) (hd : m.defined = true) :
    ∃ t, agentMove exec m s = .next t ∧ AgentsOnly s t ∧ t.moves = s.moves ∧
      (m.isBusAnswer = false ∨ s.busReq = none → t.busReq = s.busReq) ∧
      (m ≠ .timerAnswer → t.conv = s.conv) := by
  have hb := h.busy_of_held hh
  cases m with
  | hostRead off n =>
    exact ⟨_, hostRead_defined hd, agentsOnly_hostReads s _, rfl, fun _ => rfl, fun _ => rfl⟩
  | hostWrite off n v =>
    by_cases ho : off = WindowReg.cmd.offset
    · subst ho
      exact ⟨_, hostWrite_cmd_busy v hd hb, agentsOnly_reject v s, rfl, fun _ => rfl, fun _ => rfl⟩
    · exact ⟨s, hostWrite_other v hd ho, agentsOnly_moves s s.moves, rfl, fun _ => rfl, fun _ => rfl⟩
  | sequencer =>
    exact ⟨s, step_sequencer_held h hh s.moves, agentsOnly_moves s s.moves, rfl, fun _ => rfl,
      fun _ => rfl⟩
  | busAnswer b =>
    refine ⟨_, rfl, agentsOnly_busAnswer b s, ?_, fun hn => ?_, fun _ => ?_⟩
    · cases hq : s.busReq with
      | none => rw [busAnswer_none b hq]
      | some r => rw [busAnswer_some b hq]; rfl
    · rw [busAnswer_none b (hn.resolve_left (by simp [Move.isBusAnswer]))]
    · cases hq : s.busReq with
      | none => rw [busAnswer_none b hq]
      | some r => rw [busAnswer_some b hq]; rfl
  | timerAnswer =>
    refine ⟨_, rfl, agentsOnly_timerAnswer s, ?_, fun _ => ?_, fun hn => absurd rfl hn⟩
    all_goals
      unfold timerAnswer
      split <;> rfl
  | rst => exact absurd rfl hr

theorem AgentsOnly.phase (k : AgentsOnly s t) : t.phase = s.phase := by
  obtain ⟨_, _, _, _, _, _, _, rfl⟩ := k.rest
  rfl

/-- R81, R82: an unanswered request stays pending. -/
theorem run_unanswered {r : BusReq} {ms : List Move} (h : Inv s) (hr : s.busReq = some r)
    (hms : ∀ m ∈ ms, m ≠ .rst ∧ m.isBusAnswer = false ∧ m.defined = true) :
    ∃ t, core.run ms.length { s with moves := ms } = .next t ∧
      Inv t ∧ t.busReq = some r ∧ t.phase = s.phase := by
  obtain ⟨t, hrun, hP, -⟩ := run_moves (P := fun u => Inv u ∧ u.busReq = some r ∧ u.phase = s.phase)
    (fun u ms hu => ⟨(agentsOnly_moves u ms).inv hu.1, hu.2⟩)
    (fun u m ⟨hi, hq, hp⟩ ⟨hne, hbus, hd⟩ => by
      obtain ⟨t, ht, k, hm, hreq, -⟩ := agentMove_held hi (held_iff.2 (.inl (by simp [hq]))) hne hd
      exact ⟨t, ht, ⟨k.inv hi, (hreq (.inl hbus)).trans hq, k.phase.trans hp⟩, hm⟩)
    ms ⟨h, hr, rfl⟩ hms
  exact ⟨t, hrun, hP⟩

/-- R122, R157: an unanswered conversion wait stays asserted. -/
theorem run_waiting {ms : List Move} (h : Inv s) (hv : s.conv.valid = true)
    (hms : ∀ m ∈ ms, m ≠ .rst ∧ m ≠ .timerAnswer ∧ m.defined = true) :
    ∃ t, core.run ms.length { s with moves := ms } = .next t ∧ Inv t ∧ t.conv.valid = true := by
  obtain ⟨t, hrun, hP, -⟩ := run_moves (P := fun u => Inv u ∧ u.conv.valid = true)
    (fun u ms hu => ⟨(agentsOnly_moves u ms).inv hu.1, hu.2⟩)
    (fun u m ⟨hi, hq⟩ ⟨hne, htimer, hd⟩ => by
      obtain ⟨t, ht, k, hm, -, hconv⟩ := agentMove_held hi (held_iff.2 (.inr hq)) hne hd
      exact ⟨t, ht, ⟨k.inv hi, (hconv htimer).symm ▸ hq⟩, hm⟩)
    ms ⟨h, hv⟩ hms
  exact ⟨t, hrun, hP⟩

/-- Settles O20: the request and the wait stay (`run_unanswered`, `run_waiting`), and where the invariant holds
a wait is the one of WAIT_CONV (`Inv.waiting`). -/
theorem noTimeout : Obligations.NoTimeout := by
  refine ⟨fun s r ms h hr hms => ?_, fun s ms h hv hms => ?_, fun s => ?_⟩
  · obtain ⟨t, hrun, hi, hq, hp⟩ := run_unanswered h hr hms
    exact ⟨t, hrun, hi.busy_of_held (held_iff.2 (.inl (by simp [hq]))), hq, hp⟩
  · obtain ⟨t, hrun, hi, hv'⟩ := run_waiting h hv hms
    exact ⟨t, hrun, (hi.waiting hv').busy, hv', (hi.waiting hv').phase⟩
  · exact ⟨_, step_reset s [], rfl, rfl, rfl, rfl⟩

/-! ## After a reset (R149, R150) -/

/-- A move of the sequencer, the timer or the controller has nothing to do in a block where nothing runs and
nothing is pending. -/
theorem agentMove_nothing (hb : s.status.busy = false) (hn : s.busReq = none)
    (hv : s.conv.valid = false) (hm : m = .sequencer ∨ m = .timerAnswer ∨ ∃ b, m = .busAnswer b) :
    agentMove exec m s = .next s := by
  rcases hm with rfl | rfl | ⟨b, rfl⟩
  · simp [agentMove, sequencerTurn, hb]
  · simp [agentMove, timerAnswer, hv]
  · rw [agentMove, busAnswer_none b hn]

theorem run_nothing {ms : List Move} (hb : s.status.busy = false) (hn : s.busReq = none)
    (hv : s.conv.valid = false)
    (hms : ∀ m ∈ ms, m = .sequencer ∨ m = .timerAnswer ∨ ∃ b, m = .busAnswer b) :
    core.run ms.length { s with moves := ms } = .next { s with moves := [] } := by
  induction ms with
  | nil => rfl
  | cons m ms ih =>
    obtain ⟨hm, hms⟩ := List.forall_mem_cons.1 hms
    have hs : step { s with moves := m :: ms } = .next { s with moves := ms } :=
      (step_cons rfl).trans (agentMove_nothing (s := { s with moves := ms }) hb hn hv hm)
    rw [List.length_cons, run_succ _ hs, ih hms]

/-- Settles O8: the reset step, and then only moves that have nothing to do. -/
theorem resetDropsTheCommand : Obligations.ResetDropsTheCommand := by
  intro s ms hms
  rw [run_succ _ (step_reset s ms)]
  exact run_nothing (s := resetMove s) rfl rfl rfl hms

/-- R44: every register of the host window reads 0 after reset. -/
theorem windowRead_reset (off : Byte) : windowRead State.reset off = 0#32 := by
  unfold windowRead
  cases windowReg off with
  | none => rfl
  | some r =>
    cases r with
    | cal i => simp [readReg, State.reset]
    | _ => rfl

/-- Settles O6: the window by `windowRead_reset`, the table's entries by their one value. -/
theorem resetValues : Obligations.ResetValues := by
  have hcal (i : Fin 11) : State.reset.cal[i] = 0#16 := by simp [State.reset]
  refine ⟨windowRead_reset, rfl, rfl, rfl, rfl, rfl, hcal, ?_⟩
  simp [State.reset]

/-- Settles O7: the reset gives every register its reset value, and the waiting block has nothing to do. -/
theorem resetStep : Obligations.ResetStep := by
  intro s ms hm
  have hstep : step s = .next (resetMove { s with moves := ms }) := step_cons hm
  refine ⟨_, hstep, rfl, windowRead_reset, ?_⟩
  have turn : step { resetMove { s with moves := ms } with moves := [.sequencer] } =
      .next { resetMove { s with moves := ms } with moves := [] } :=
    (step_cons rfl).trans (agentMove_nothing rfl rfl rfl (.inl rfl))
  rw [turn]
  simp [State.reset, Status.reset]

end Sys2Proof.Machine
end

section
/-! PROOF. Single steps as the rules write them out: host reads and rejected writes (20_memory.md R49, R52), the
command that runs (R53, R66), the conversion wait (42_composite_reads.md R122), and the steps of INIT, TRIG and
RDPAIR (40_bus_transactions.md R96 to R99). -/

namespace Sys2Proof.Machine

variable {s t : State} {i : Instr}

/-! ## Host accesses -/

/-- R25: the bits of STATUS that `statusWord_busy_done` and `statusWord_fields` leave out. -/
theorem statusWord_flags :
    (statusWord s).getLsbD 2 = s.status.calValid ∧ (statusWord s).getLsbD 3 = s.status.b5Valid ∧
    (statusWord s).getLsbD 4 = s.status.reject ∧ (statusWord s).getLsbD 7 = false := by
  refine ⟨?_, ?_, ?_, ?_⟩ <;> (simp only [statusWord, BitVec.getLsbD_append]; simp)

/-- R25: LAST_OP and FAIL_PHASE. -/
theorem statusWord_last :
    (statusWord s).extractLsb' 24 4 = s.status.lastOp ∧
    (statusWord s).extractLsb' 28 4 = s.status.failPhase.code := by
  constructor
  all_goals
    apply BitVec.eq_of_getLsbD_eq
    intro i hi
    simp (disch := omega) only [statusWord, BitVec.getLsbD_extractLsb', BitVec.getLsbD_append, hi,
      decide_true, Bool.true_and, if_neg, if_pos]
    congr 1
    omega

/-- R28: the fields of CALSTAT. -/
theorem calstatWord_fields :
    (calstatWord s).extractLsb' 0 11 = s.calstat.readFail ∧
    (calstatWord s).extractLsb' 11 5 = 0 ∧
    (calstatWord s).extractLsb' 16 11 = s.calstat.badValue ∧
    (calstatWord s).extractLsb' 27 5 = 0 := by
  refine ⟨?_, ?_, ?_, ?_⟩
  all_goals
    apply BitVec.eq_of_getLsbD_eq
    intro i hi
    simp (disch := omega) only [calstatWord, BitVec.getLsbD_extractLsb', BitVec.getLsbD_append, hi,
      decide_true, Bool.true_and, if_neg, if_pos]
  · rw [Nat.zero_add]
  · simp
  · congr 1; omega
  · simp

/-- R24 and R49: the reserved offsets read 0. -/
theorem windowRead_reserved {off : Byte} (h : off.toNat = 0x1C ∨ 0x4C ≤ off.toNat) (s : State) :
    windowRead s off = 0 := by
  have hr : windowReg off = none := by
    unfold windowReg
    split
    any_goals omega
    exact dif_neg (by omega)
  rw [windowRead, hr]

/-- R33: the calibration words stand every four bytes from 0x20 on. -/
theorem windowRead_cal {off : Byte} {i : Fin 11} (h : off.toNat = 0x20 + 4 * i.val) (s : State) :
    windowRead s off = s.cal[i].zeroExtend 32 := by
  have hi := i.isLt
  have hr : windowReg off = some (.cal i) := by
    unfold windowReg
    split
    any_goals omega
    rw [dif_pos (by omega)]
    congr 2
    exact Fin.ext (by simp only [h]; omega)
  rw [windowRead, hr]
  rfl

/-- Settles O9: the read is defined (`hostRead_defined`) and returns `windowRead`, whose fields are read off
register by register. -/
theorem hostReadReturns : Obligations.HostReadReturns := by
  intro s off ms ha hm
  refine ⟨windowRead s off, ?_, ?_, ?_, ?_, ?_, ?_, ?_, ?_, ?_, ?_, ?_⟩
  · rw [step_cons hm]
    exact hostRead_defined ((accessDefined_iff off 4).mpr ⟨rfl, ha⟩)
  · rintro rfl; rfl
  · rintro rfl
    obtain ⟨hbusy, hdone⟩ := statusWord_busy_done (s := s)
    obtain ⟨hx, herr, hphase, hb⟩ := statusWord_fields (s := s)
    obtain ⟨hc, hv, hr, h7⟩ := statusWord_flags (s := s)
    obtain ⟨hl, hp⟩ := statusWord_last (s := s)
    rw [windowRead_status]
    exact ⟨hbusy, hdone, hc, hv, hr, hx, h7, herr, hphase, hb, hl, hp⟩
  · rintro rfl; exact calstatWord_fields
  · rintro rfl
    exact BitVec.toNat_setWidth_of_le (by decide)
  · rintro rfl
    exact BitVec.toInt_signExtend_of_le (by decide)
  · rintro rfl; rfl
  · rintro rfl; rfl
  · rintro rfl; rfl
  · intro i hi
    rw [windowRead_cal hi]
    exact BitVec.toNat_setWidth_of_le (by decide)
  · intro h
    exact windowRead_reserved (.inr h) s

/-- Settles O12: a rejection (`step_cmd_busy`), written out. -/
theorem busyCommandWriteIsRejected : Obligations.BusyCommandWriteIsRejected :=
  fun _ _ _ hb hm => step_cmd_busy hb hm

/-! ## The command that runs -/

/-- After an acceptance the latches hold the word, its reserved bits being 0 (R37, R53). -/
theorem latchedWord_accept (i : Instr) (s : State) : latchedWord (accept (encode i) s) = encode i := by
  have hs : latchedWord (accepted (encode i) s) = encode i := by
    simp [latchedWord, accepted, latch, emit, encode]
  rcases accept_cases (encode i) s with ⟨-, e⟩ | ⟨-, -, -, e⟩ | ⟨-, -, -, e⟩ | ⟨-, -, -, e⟩ <;> rw [e]
  · exact hs
  · exact hs
  · exact hs
  · unfold startCommand
    split <;> exact hs

/-- Settles O16: a command write while idle accepts the word (`step_cmd_idle`), the sequencer's turn runs
the latched command, and an acceptance latches the word. -/
theorem stepRunsTheDecodedCommand : Obligations.StepRunsTheDecodedCommand := by
  refine ⟨fun s v i ms hb hm hd => ?_, fun s i ms hb hm hd => ?_, fun s t i hb h => ?_⟩
  · have hb' : { s with moves := ms }.status.busy = false := hb
    rw [step_cmd_idle hb hm, exec_idle i hb', encode_of_decode hd]
  · rcases hm with hm | ⟨hm, rfl⟩
    · have e := step_sequencer hb hd ms
      rwa [← hm] at e
    · have e : { s with moves := [] } = s := by rw [← hm]
      rw [step_nil hm, e]
      simp [sequencerTurn, hb, hd]
  · rw [exec_idle i hb] at h
    cases h
    exact latchedWord_accept i s

/-! ## The conversion wait -/

/-- Settles O19: a held command stays where it is (`exec_held`); the timer's move is its answer step. -/
theorem conversionWaitHandshake : Obligations.ConversionWaitHandshake := by
  refine ⟨fun s i hc hb => exec_held i hb (held_iff.mpr (.inr hc)), fun s ms hc hm => ?_,
    fun s ms hc hm => ?_⟩
  · rw [step_cons hm]
    simp [agentMove, timerAnswer, hc, emit]
  · rw [step_cons hm]
    simp [agentMove, timerAnswer, hc]

/-! ## The end of a transaction -/

theorem trigStep_stopped (hp : s.phase = .stop) (ha : s.busAns = some (.done .stop)) :
    trigStep s = .ended s.xfail { s with xact := .none, xfail := none } := by
  simp [trigStep, hp, ha, endTransaction]

theorem readStep_stopped (hp : s.phase = .stop) (ha : s.busAns = some (.done .stop)) :
    readStep s = .ended s.xfail { s with xact := .none, xfail := none } := by
  simp [readStep, hp, ha, endTransaction]

theorem trigBody_stopped (hx : s.xact ≠ .none) (hp : s.phase = .stop)
    (ha : s.busAns = some (.done .stop)) : trigBody s =
      .next (onOutcome (complete .none .idle) s.xfail { s with xact := .none, xfail := none }) := by
  rw [trigBody, if_neg hx, trigStep_stopped hp ha]
  rfl

theorem rdpairBody_stopped (hx : s.xact ≠ .none) (hp : s.phase = .stop)
    (ha : s.busAns = some (.done .stop)) : rdpairBody s =
      .next (onOutcome rdpairDone s.xfail { s with xact := .none, xfail := none }) := by
  rw [rdpairBody, if_neg hx, readStep_stopped hp ha]
  rfl

theorem ldcalBody_stopped (hx : s.xact ≠ .none) (hp : s.phase = .stop)
    (ha : s.busAns = some (.done .stop)) : ldcalBody s =
      .next (calReadEnd s.xfail { s with xact := .none, xfail := none }) := by
  rw [ldcalBody, if_neg hx, readStep_stopped hp ha]
  rfl

/-! ## INIT, TRIG and RDPAIR -/

/-- A running command not held takes the step of its body. -/
theorem exec_body (hb : s.status.busy = true) (hh : held s = false) :
    exec i s = bodyOfOp i.op s := by
  rw [exec_eq_runCommand, runCommand_body hb hh]

/-- Settles O22: the two branches of INIT's body (`initBody_idle`, `initBody_answered`). -/
theorem initSteps : Obligations.InitSteps := by
  rintro _ p g s hb hh rfl hH
  have e : exec (.init s.bl p g) s = initBody s := exec_body hb hh
  refine ⟨fun hp => ?_, fun hp ha => ?_⟩
  · have hl : loByte s.hl = p := by
      rw [hH]
      exact loByte_append g p
    rw [e, initBody_idle hp, hl]
    rfl
  · rw [e, initBody_answered hp ha]
    rfl

/-- Settles O23: TRIG's body at its first step and after STOP (`trigBody_stopped`). -/
theorem trigSteps : Obligations.TrigSteps := by
  rintro _ g s hb hh rfl
  refine ⟨fun hx => ?_, fun hx hp ha => ?_⟩
  · rw [exec_trig_begin hb hh hx]
    rfl
  · have e : exec (.trig s.bl g) s = trigBody s := exec_body hb hh
    rw [e, trigBody_stopped hx hp ha]
    exact ⟨fun hf => by rw [hf]; rfl, fun f hf => by rw [hf]; rfl⟩

/-- Settles O24: RDPAIR's body at its first step and after STOP (`rdpairBody_stopped`). -/
theorem rdpairSteps : Obligations.RdpairSteps := by
  rintro _ _ s hb hh rfl rfl
  refine ⟨fun hx => ?_, fun hx hp ha => ?_⟩
  · rw [exec_rdpair_begin hb hh hx]
    rfl
  · have e : exec (.rdpair s.bl s.hl) s = rdpairBody s := exec_body hb hh
    rw [e, rdpairBody_stopped hx hp ha]
    exact ⟨fun hf => by rw [hf]; rfl, fun f hf => by rw [hf]; rfl⟩

end Sys2Proof.Machine
end

section
/-! PROOF. The steps of CTEMP, CPRES, RDTEMP and RDPRES as the rules write them out
(41_calibration_compensation.md R114, R120, 42_composite_reads.md R125, R126): each conclusion is the state
that an equation of the body (`compositeBody_…`, `computeTemp_…`, `computePress_…`) gives. -/

namespace Sys2Proof.Machine

variable {s : State} {compute : Half → State → State}

theorem computeBody_idle (hp : s.phase = .idle) :
    computeBody compute s = .next (enterCompute s) := by
  simp [computeBody, hp]

theorem computeBody_compute (hp : s.phase = .compute) :
    computeBody compute s = .next (compute s.hl s) := by
  simp [computeBody, hp]

/-! ## CTEMP and CPRES -/

/-- Settles O40: CTEMP's body in phase IDLE and in phase COMPUTE. -/
theorem ctempSteps : Obligations.CtempSteps := by
  rintro raw g s hb hh rfl
  have e : exec (.ctemp s.hl g) s = computeBody computeTemp s := exec_body hb hh
  refine ⟨fun hp => e.trans (computeBody_idle hp), fun hp t b hr => ?_, fun hp hr => ?_⟩
  · rw [e, computeBody_compute hp, computeTemp_result hr]
    simp [complete, emit]
  · rw [e, computeBody_compute hp, computeTemp_divZero hr]
    rfl

/-- Settles O41: CPRES's body in phase IDLE and in phase COMPUTE. -/
theorem cpresSteps : Obligations.CpresSteps := by
  rintro raw g s hb hh rfl
  have e : exec (.cpres s.hl g) s = computeBody computePress s := exec_body hb hh
  refine ⟨fun hp => e.trans (computeBody_idle hp), fun hp p hr => ?_, fun hp hr => ?_⟩
  · rw [e, computeBody_compute hp, computePress_result hr]
    simp [complete, emit]
  · rw [e, computeBody_compute hp, computePress_divZero hr]
    rfl

/-! ## RDTEMP and RDPRES -/

theorem compositeBody_triggered {ctrl : Byte} {mode : ConvMode} (h : s.stage = 1)
    (hx : s.xact = .trig) (hp : s.phase = .stop) (ha : s.busAns = some (.done .stop)) :
    compositeBody ctrl mode compute s = .next
      (onOutcome (conversionAsked mode) s.xfail { s with xact := .none, xfail := none }) := by
  rw [compositeBody_trigger h (by simp [hx]), trigStep_stopped hp ha]
  rfl

theorem compositeBody_readDone {ctrl : Byte} {mode : ConvMode} (h : s.stage = 3)
    (hx : s.xact = .rdpair) (hp : s.phase = .stop) (ha : s.busAns = some (.done .stop)) :
    compositeBody ctrl mode compute s = .next
      (onOutcome resultReadDone s.xfail { s with xact := .none, xfail := none }) := by
  rw [compositeBody_read h (by simp [hx]), readStep_stopped hp ha]
  rfl

/-- Settles O42: the stages of the composite body up to stage 4, whichever of the two commands runs. -/
theorem compositeReadStages : Obligations.CompositeReadStages := by
  intro i ctrl mode g h s hi hb hh
  obtain ⟨compute, hc⟩ : ∃ compute, exec i s = compositeBody ctrl mode compute s := by
    rcases hi with ⟨rfl, rfl, rfl⟩ | ⟨rfl, rfl, rfl⟩
    · exact ⟨computeTemp, exec_body hb hh⟩
    · exact ⟨computePress, exec_body hb hh⟩
  intro failed stopped
  rw [hc]
  refine ⟨compositeBody_stage0, compositeBody_startTrig, fun h1 hx hs => ?_, compositeBody_stage2,
    compositeBody_startRead, fun h3 hx hs => ?_⟩
  · rw [compositeBody_triggered h1 hx hs.1 hs.2]
    refine ⟨fun hf => ?_, fun f hf => ?_⟩
    · rw [hf]
      rfl
    · rw [hf]
      rfl
  · rw [compositeBody_readDone h3 hx hs.1 hs.2]
    refine ⟨fun hf => ?_, fun f hf => ?_⟩
    · rw [hf]
      rfl
    · rw [hf]
      rfl

/-- Settles O43: in stage 4 the body is the compute step on rawl. -/
theorem compositeReadCompute : Obligations.CompositeReadCompute := by
  intro g h s hb hh h4
  have eT : exec (.rdtemp g h) s = .next (computeTemp s.rawl s) :=
    (exec_body hb hh).trans (compositeBody_compute h4)
  have eP : exec (.rdpres g h) s = .next (computePress s.rawl s) :=
    (exec_body hb hh).trans (compositeBody_compute h4)
  refine ⟨fun t b hr => ?_, fun hr => ?_, fun p hr => ?_, fun hr => ?_⟩
  · rw [eT, computeTemp_result hr]
    simp [complete, emit]
  · rw [eT, computeTemp_divZero hr]
    rfl
  · rw [eP, computePress_result hr]
    simp [complete, emit]
  · rw [eP, computePress_divZero hr]
    rfl

end Sys2Proof.Machine
end

section
/-! PROOF. Values: the legal values of the STATUS fields (10_state.md R25), the reading of a calibration entry
(41_calibration_compensation.md R106), the published sample (00_scope.md R9) and CTEMP's corner case. -/

namespace Sys2Proof.Machine

/-! ## STATUS -/

theorem Phase.code_le (p : Phase) : p.code.toNat ≤ 12 := by cases p <;> decide

theorem Shape.code_le (x : Shape) : x.code.toNat ≤ 2 := by cases x <;> decide

theorem ErrCode.code_le (e : ErrCode) : e.code.toNat ≤ 5 := by cases e <;> decide

theorem Phase.checked_code {p : Phase} (h : p.checked = true) :
    1 ≤ p.code.toNat ∧ p.code.toNat ≤ 8 := by
  cases p <;> simp [Phase.checked] at h <;> decide

/-- R25, R129: FAIL_PHASE beside ERR, as the numbers the host reads. -/
theorem failPhase_code {e : ErrCode} {p : Phase} (h : failPhaseFits e p = true) :
    (e.code = 1#4 → 1 ≤ p.code.toNat ∧ p.code.toNat ≤ 8) ∧ (e.code = 2#4 → p.code.toNat = 11) ∧
    (e.code ≠ 1#4 → e.code ≠ 2#4 → p.code.toNat = 0) := by
  cases e with
  | busPhase =>
    exact ⟨fun _ => Phase.checked_code h, fun h2 => absurd h2 (by decide), fun h1 => absurd rfl h1⟩
  | divZero =>
    obtain rfl : p = .compute := by simpa [failPhaseFits] using h
    decide
  | none | uncalibrated | illegalCmd | badCal =>
    obtain rfl : p = .idle := by simpa [failPhaseFits] using h
    decide

/-- Settles O50: the fields are the codes of the registers, and the invariant fits FAIL_PHASE to ERR. -/
theorem statusFieldsAreLegal : Obligations.StatusFieldsAreLegal := by
  intro s h
  obtain ⟨hx, he, hp, -⟩ := statusWord_fields (s := s)
  obtain ⟨-, -, -, h7⟩ := statusWord_flags (s := s)
  obtain ⟨-, hfp⟩ := statusWord_last (s := s)
  simp only [windowRead_status, hx, he, hp, hfp]
  exact ⟨h7, ErrCode.code_le _, Phase.code_le _, Shape.code_le _, failPhase_code h.failPhaseLegal⟩

/-! ## Calibration entries (R106) -/

theorem toInt_zeroExtend (w : Half) : (w.zeroExtend 32).toInt = w.toNat := by
  have := w.isLt
  rw [BitVec.toInt_setWidth]
  exact Int.bmod_eq_of_le (by omega) (by omega)

variable {c : Config} {i : Fin 11}

theorem cv_toInt_signed (h : c.calSigned.getLsbD i.val = true) (cal : Vector Half 11) :
    (cv c cal i).toInt = cal[i].toInt := by
  rw [cv, calTerm, if_pos h]
  exact BitVec.toInt_signExtend_of_le (by decide)

theorem cv_toInt_unsigned (h : c.calSigned.getLsbD i.val = false) (cal : Vector Half 11) :
    (cv c cal i).toInt = cal[i].toNat := by
  have hb : ¬ c.calSigned.getLsbD i.val = true := by rw [h]; exact Bool.false_ne_true
  rw [cv, calTerm, if_neg hb]
  exact toInt_zeroExtend _

/-- Settles O33: the two readings, and the block's defaults. -/
theorem calibrationReading : Obligations.CalibrationReading :=
  ⟨fun _ cal _ => ⟨fun h => cv_toInt_signed h cal, fun h => cv_toInt_unsigned h cal⟩,
    by decide, rfl⟩

/-! ## The published sample (R9) -/

/-- Settles O38: both formulas depend on the parameters named alone (`tempf_congr`, `presf_congr`), so two
configurations stand for all. -/
theorem sampleResults : Obligations.SampleResults := by
  intro c hc
  have hcv : cv c = cv Config.suggested := cv_congr hc
  refine ⟨?_, ?_⟩
  · rw [tempf_congr hcv]
    decide
  · cases hu : c.upSource with
    | raw =>
      rw [presf_congr hcv (upTerm_congr (c' := Config.suggested) hu)]
      decide
    | literal =>
      rw [presf_congr (c' := { Config.suggested with upSource := .literal }) hcv (upTerm_congr hu)]
      decide

/-! ## CTEMP's corner case -/

/-- R111: at the raw value cal[5], read as unsigned, the denominator is the entry 10. -/
theorem tempDen_cal5 (h : c.calSigned.getLsbD 5 = false) (cal : Vector Half 11) :
    tempDen c cal cal[5] = cv c cal 10 := by
  have h5 : cv c cal 5 = cal[5].zeroExtend 32 := by
    rw [cv, calTerm]
    exact if_neg (by simpa using h)
  have h0 : tempX1 c cal cal[5] = 0 := by
    rw [tempX1, h5, BitVec.sub_self, BitVec.zero_mul]
    decide
  rw [tempDen, h0, zero_add]

/-- Settles O39: the denominator is the entry 10, which in a valid table is not 0x0000. -/
theorem rawEqualToCal5Divides : Obligations.RawEqualToCal5Divides := by
  intro s h hv hc
  have h10 : s.cal[10] ≠ 0x0000#16 := ((badWord_eq_false _).mp ((h.validTable hv).2 10)).1
  have hden : tempDen s.cfg s.cal s.cal[5] ≠ 0 := by
    rw [tempDen_cal5 (by rw [hc]; decide)]
    intro h0
    have hi := cv_toInt_unsigned (c := s.cfg) (i := 10) (by rw [hc]; decide) s.cal
    rw [h0] at hi
    exact h10 (BitVec.eq_of_toNat_eq (Int.ofNat_inj.mp hi.symm))
  exact Option.ne_none_iff_exists'.mp fun hn => hden (tempf_eq_none.mp hn)

end Sys2Proof.Machine
end

section
/-! PROOF. The two formulas on integers: the pressure formula with every 32-bit operation wrapped
(41_calibration_compensation.md R117, R118), and the temperature formula, in which nothing wraps under the
default signedness (R111 to R113). -/

namespace Sys2Proof.Machine

variable {c : Config} {cal : Vector Half 11} {raw : Half} {b5 : Word}

/-! ## The operators as integers (R102 to R105) -/

theorem toInt_add_wrap (a b : Word) : (a + b).toInt = wrap (a.toInt + b.toInt) := BitVec.toInt_add a b

theorem toInt_sub_wrap (a b : Word) : (a - b).toInt = wrap (a.toInt - b.toInt) := BitVec.toInt_sub

theorem toInt_mul_wrap (a b : Word) : (a * b).toInt = wrap (a.toInt * b.toInt) := BitVec.toInt_mul a b

theorem toInt_asr (a : Word) (n : Nat) : (asr a n).toInt = a.toInt / 2 ^ n := by
  rw [asr, BitVec.toInt_sshiftRight, Int.shiftRight_eq_div_pow]
  rfl

theorem unsigned_wrap (n : Int) : unsigned (wrap n) = unsigned n := Int.bmod_emod

theorem wrap_unsigned (n : Int) : wrap (unsigned n) = wrap n := Int.emod_bmod n (2 ^ 32)

theorem toInt_eq_wrap (a : Word) : a.toInt = wrap a.toNat := BitVec.toInt_eq_toNat_bmod a

/-- R11: the unsigned value of a word is the low 32 bits of the signed one. -/
theorem toNat_eq_unsigned (a : Word) : (a.toNat : Int) = unsigned a.toInt := by
  have := a.isLt
  rw [toInt_eq_wrap, unsigned_wrap, unsigned, Int.emod_eq_of_lt (by omega) (by omega)]

theorem cv_toInt (c : Config) (cal : Vector Half 11) (i : Fin 11) :
    (cv c cal i).toInt = cvInt c cal i := by
  cases h : c.calSigned.getLsbD i.val with
  | true => rw [cvInt, if_pos h, cv_toInt_signed h]
  | false => rw [cvInt, if_neg (by rw [h]; exact Bool.false_ne_true), cv_toInt_unsigned h]

/-! ## Pressure -/

theorem upTerm_toInt (c : Config) (raw : Half) : (upTerm c raw).toInt =
    match c.upSource with | .raw => (raw.toNat : Int) | .literal => 23843 := by
  cases h : c.upSource with
  | raw => simp only [upTerm, h]; exact toInt_zeroExtend raw
  | literal => simp only [upTerm, h]; decide

/-- R118: the quotient as an integer, by the size of b7. -/
theorem pressQuotient_toInt (b7 b4 : Word) : (pressQuotient b7 b4).toInt =
    if (b7.toNat : Int) < 2 ^ 31 then wrap ((b7.toNat : Int) * 2 / b4.toNat)
    else wrap ((b7.toNat : Int) / b4.toNat * 2) := by
  by_cases h : b7.toNat < 0x80000000
  · rw [if_pos (by omega), toInt_eq_wrap, pressQuotient_below h]
    norm_cast
  · have e (m : Nat) : ((m % 2 ^ 32 : Nat) : Int) = unsigned m := Int.natCast_emod m (2 ^ 32)
    rw [if_neg (by omega), toInt_eq_wrap, pressQuotient_above (by omega), e, wrap_unsigned]
    norm_cast

theorem pressCorrect_toInt (p : Word) : (pressCorrect p).toInt =
    wrap (p.toInt + wrap (wrap (wrap (wrap (p.toInt / 2 ^ 8 * (p.toInt / 2 ^ 8)) * 3038) / 2 ^ 16 +
      wrap (-7357 * p.toInt) / 2 ^ 16) + 3791) / 2 ^ 4) := by
  have h3038 : (3038 : Word).toInt = 3038 := by decide
  have h7357 : (-7357 : Word).toInt = -7357 := by decide
  have h3791 : (3791 : Word).toInt = 3791 := by decide
  simp only [pressCorrect, toInt_add_wrap, toInt_mul_wrap, toInt_asr, h3038, h7357, h3791]

/-- R117 line by line: each operator is its integer counterpart, wrapped, b4 and b7 being taken
unsigned. -/
theorem presf_toInt : (presf c cal b5 raw).map BitVec.toInt =
    wrappedPress (upTerm c raw).toInt (cvInt c cal) b5.toInt := by
  have h4000 : (4000 : Word).toInt = 4000 := by decide
  have h2 : (2 : Word).toInt = 2 := by decide
  have h4 : (4 : Word).toInt = 4 := by decide
  have h32768 : (32768 : Word).toInt = 32768 := by decide
  have h50000 : (50000 : Word).toInt = 50000 := by decide
  unfold wrappedPress
  extract_lets b6 sq x3 b3 y3 b4 b7
  have e3 : (pressB3 c cal b5).toInt = b3 := by
    simp only [pressB3, toInt_asr, toInt_add_wrap, toInt_sub_wrap, toInt_mul_wrap, cv_toInt, h4000,
      h4, b3, x3, sq, b6]
  have e4 : ((pressB4 c cal b5).toNat : Int) = b4 := by
    simp only [pressB4, lsr_toNat, Int.natCast_ediv, toNat_eq_unsigned, toInt_mul_wrap,
      unsigned_wrap, toInt_add_wrap, toInt_asr, toInt_sub_wrap, cv_toInt, h4000, h2, h32768, b4, y3,
      sq, b6]
    rfl
  have e7 : ((pressB7 c cal b5 raw).toNat : Int) = b7 := by
    simp only [pressB7, toNat_eq_unsigned, toInt_mul_wrap, unsigned_wrap, toInt_sub_wrap, e3, h50000,
      b7]
  by_cases h0 : pressB4 c cal b5 = 0
  · have hb4 : b4 = 0 := by rw [← e4, h0]; rfl
    rw [presf_eq_none.mpr h0, if_pos hb4]
    rfl
  · have hb4 : b4 ≠ 0 := by
      rw [← e4]
      exact fun h => h0 (BitVec.eq_of_toNat_eq (Int.ofNat_inj.mp h))
    rw [presf, if_neg h0, if_neg hb4, Option.map_some, pressCorrect_toInt, pressQuotient_toInt, e4,
      e7]

/-- Settles O35: the wrapped formula (`presf_toInt`), the raw term being that of R116. -/
theorem pressureIsTheWrappedFormula : Obligations.PressureIsTheWrappedFormula :=
  fun c cal b5 _ =>
    presf_toInt.trans (congrArg (wrappedPress · (cvInt c cal) b5.toInt) (upTerm_toInt c _))

/-! ## Temperature (R111 to R113) -/

theorem wrap_eq_self {n : Int} (hl : -2 ^ 31 ≤ n) (hu : n < 2 ^ 31) : wrap n = n :=
  Int.bmod_eq_of_le (by omega) (by omega)

theorem toInt_shl_wrap (a : Word) (n : Nat) : (shl a n).toInt = wrap (a.toInt * 2 ^ n) := by
  have e : ((a.toNat * 2 ^ n : Nat) : Int) = a.toNat * 2 ^ n := by push_cast; rfl
  rw [shl_eq, BitVec.toInt_ofNat', toInt_eq_wrap a, e]
  exact Int.bmod_mul_bmod.symm

theorem toInt_divS_wrap (a b : Word) : (divS a b).toInt = wrap (a.toInt.tdiv b.toInt) :=
  BitVec.toInt_sdiv a b

theorem half_toInt_bounds (h : Half) : -32768 ≤ h.toInt ∧ h.toInt ≤ 32767 := by
  have hl := BitVec.le_toInt h
  have hu := BitVec.toInt_lt (x := h)
  omega

/-- R112: the product of the temperature formula fits 32 bits. -/
theorem temp_product_bounds (a b w : Half) :
    -2147450880 ≤ ((a.toNat : Int) - b.toNat) * w.toInt ∧
      ((a.toNat : Int) - b.toNat) * w.toInt ≤ 2147450880 := by
  have ha := a.isLt
  have hb := b.isLt
  obtain ⟨hl, hu⟩ := half_toInt_bounds w
  have hd : |(a.toNat : Int) - b.toNat| ≤ 65535 := abs_le.mpr (by omega)
  have hw : |w.toInt| ≤ 32768 := abs_le.mpr (by omega)
  have h : |((a.toNat : Int) - b.toNat) * w.toInt| ≤ 65535 * 32768 := by
    rw [abs_mul]
    exact mul_le_mul hd hw (abs_nonneg _) (by norm_num)
  exact abs_le.mp h

theorem tdiv_bounds {n m : Int} (h : |n| ≤ m) (d : Int) : |n.tdiv d| ≤ m := by
  have hle : (n.tdiv d).natAbs ≤ n.natAbs := by
    rw [Int.natAbs_tdiv]
    exact Nat.div_le_self _ _
  rw [Int.abs_eq_natAbs] at *
  omega

/-- R113: the temperature is the low 16 bits of t32. -/
theorem low16_eq_ofInt (t : Word) : t.extractLsb' 0 16 = BitVec.ofInt 16 t.toInt := by
  rw [← BitVec.setWidth_eq_extractLsb' (by decide), ← BitVec.signExtend_eq_setWidth_of_le _ (by decide)]
  rfl

section
variable (hc : c.calSigned = Config.defaultSigned)
include hc

/-- The readings of the formula's four entries under the default signedness (R106). -/
theorem cvInt_temp (cal : Vector Half 11) : cvInt c cal 4 = cal[4].toInt ∧
    cvInt c cal 5 = cal[5].toNat ∧ cvInt c cal 9 = cal[9].toInt ∧ cvInt c cal 10 = cal[10].toNat := by
  refine ⟨?_, ?_, ?_, ?_⟩ <;> (rw [cvInt, hc]; rfl)

theorem tempX1_toInt (cal : Vector Half 11) (raw : Half) :
    (tempX1 c cal raw).toInt = ((raw.toNat : Int) - cal[5].toNat) * cal[4].toInt / 2 ^ 15 := by
  obtain ⟨h4, h5, -, -⟩ := cvInt_temp hc cal
  have hr := raw.isLt
  have h5' := cal[5].isLt
  obtain ⟨hl, hu⟩ := temp_product_bounds raw cal[5] cal[4]
  rw [tempX1, toInt_asr, toInt_mul_wrap, toInt_sub_wrap, toInt_zeroExtend, cv_toInt, cv_toInt, h4, h5,
    wrap_eq_self (n := (raw.toNat : Int) - cal[5].toNat) (by omega) (by omega),
    wrap_eq_self (by omega) (by omega)]

end

/-- R112: x1 is less than 2^16 in size. -/
theorem temp_x1_bounds (a b w : Half) :
    -65535 ≤ ((a.toNat : Int) - b.toNat) * w.toInt / 2 ^ 15 ∧
      ((a.toNat : Int) - b.toNat) * w.toInt / 2 ^ 15 ≤ 65535 := by
  obtain ⟨hl, hu⟩ := temp_product_bounds a b w
  omega

/-- R111 to R113: under the default signedness no operation wraps but the final cut to 16 bits. -/
theorem tempf_exact (hc : c.calSigned = Config.defaultSigned) :
    (tempf c cal raw).map (fun r => (r.1, r.2.toInt)) =
      (exactTemp raw.toNat cal[4].toInt cal[5].toNat cal[9].toInt cal[10].toNat).map
        (fun r => (BitVec.ofInt 16 r.1, r.2)) := by
  obtain ⟨-, -, h9, h10⟩ := cvInt_temp hc cal
  obtain ⟨hl1, hu1⟩ := temp_x1_bounds raw cal[5] cal[4]
  have e1 := tempX1_toInt hc cal raw
  unfold exactTemp
  extract_lets x1 den b5
  have hx1 : (tempX1 c cal raw).toInt = x1 := e1
  have hden : (tempDen c cal raw).toInt = den := by
    have := cal[10].isLt
    rw [tempDen, toInt_add_wrap, hx1, cv_toInt, h10, wrap_eq_self (by omega) (by omega)]
  by_cases h0 : tempDen c cal raw = 0
  · have hd0 : den = 0 := by rw [← hden, h0]; rfl
    rw [tempf_eq_none.mpr h0, if_pos hd0]
    rfl
  have hd0 : den ≠ 0 := fun h => h0 (BitVec.eq_of_toInt_eq (hden.trans h))
  obtain ⟨hl9, hu9⟩ := half_toInt_bounds cal[9]
  have hq := abs_le.mp (tdiv_bounds (n := cal[9].toInt * 2 ^ 11) (m := 2 ^ 26)
    (abs_le.mpr (by omega)) den)
  have hb5 : (tempX1 c cal raw + divS (shl (cv c cal 9) 11) (tempDen c cal raw)).toInt = b5 := by
    have e9 : wrap (cal[9].toInt * 2 ^ 11) = cal[9].toInt * 2 ^ 11 :=
      wrap_eq_self (by omega) (by omega)
    have e2 : wrap ((cal[9].toInt * 2 ^ 11).tdiv den) = (cal[9].toInt * 2 ^ 11).tdiv den :=
      wrap_eq_self (by omega) (by omega)
    rw [toInt_add_wrap, toInt_divS_wrap, toInt_shl_wrap, hx1, hden, cv_toInt, h9, e9, e2]
    exact wrap_eq_self (by omega) (by omega)
  have h8 : (8 : Word).toInt = 8 := by decide
  have ht : (asr (tempX1 c cal raw + divS (shl (cv c cal 9) 11) (tempDen c cal raw) + 8) 4).toInt =
      (b5 + 8) / 2 ^ 4 := by
    rw [toInt_asr, toInt_add_wrap, hb5, h8, wrap_eq_self (by omega) (by omega)]
  simp only [tempf, if_neg h0, if_neg hd0, Option.map_some, low16_eq_ofInt, ht, hb5]

/-- Settles O34: `tempf_exact`, read off on either side. -/
theorem temperatureIsTheExactFormula : Obligations.TemperatureIsTheExactFormula := by
  intro c cal raw hc
  have e := tempf_exact (cal := cal) (raw := raw) hc
  refine ⟨fun hn => ?_, fun t32 b5 hs => ?_⟩
  · rwa [hn, Option.map_none, Option.map_eq_none_iff] at e
  · rw [hs, Option.map_some, Option.map_eq_some_iff] at e
    obtain ⟨⟨t, b⟩, htb, hr⟩ := e
    obtain ⟨ht, hb⟩ := Prod.mk.inj hr
    obtain rfl : t = BitVec.ofInt 16 t32 := ht
    exact ⟨b, htb, hb⟩

end Sys2Proof.Machine
end

section
/-! PROOF. LDCAL read by read (41_calibration_compensation.md R107, R108): what the end of a read leaves, what
follows it, and how the command ends. -/

namespace Sys2Proof.Machine

variable {s : State}

/-! ## The end of the command -/

theorem ldcalFinish_failed (hf : s.ffail = true) :
    ldcalFinish s = raiseError (.busPhase ⟨s.ffs, s.ffp, s.ffx⟩) s := if_pos hf

theorem ldcalFinish_bad (hf : s.ffail = false) (hb : s.calstat.badValue ≠ 0) :
    ldcalFinish s = raiseError .badCal s := by
  rw [ldcalFinish, if_neg (by simp [hf]), if_pos hb]

theorem ldcalFinish_good (hf : s.ffail = false) (hb : s.calstat.badValue = 0) :
    ldcalFinish s =
      complete .none .idle { s with status := { s.status with calValid := true } } := by
  rw [ldcalFinish, if_neg (by simp [hf]), if_neg (by simp [hb])]

/-- R107: however it ends, the command completes, and only the error record and CAL_VALID are written. -/
theorem ldcalFinish_eq (s : State) : ∃ c p b x v,
    ldcalFinish s = complete c p { s with status := { s.status with
      busStatus := b, failXact := x, calValid := v } } ∧
    (v ≠ s.status.calValid → c = .none ∧ v = true) := by
  by_cases hf : s.ffail = true
  · exact ⟨.busPhase, s.ffp, s.ffs, s.ffx, s.status.calValid, ldcalFinish_failed hf,
      fun h => absurd rfl h⟩
  rw [Bool.not_eq_true] at hf
  by_cases hb : s.calstat.badValue = 0
  · exact ⟨.none, .idle, s.status.busStatus, s.status.failXact, true, ldcalFinish_good hf hb,
      fun _ => ⟨rfl, rfl⟩⟩
  · exact ⟨.badCal, .idle, s.status.busStatus, s.status.failXact, s.status.calValid,
      ldcalFinish_bad hf hb, fun h => absurd rfl h⟩

theorem ldcalFinish_done (s : State) :
    (ldcalFinish s).status.busy = false ∧ (ldcalFinish s).status.done = true ∧
    (ldcalFinish s).phase = .idle ∧ (ldcalFinish s).stage = 0 ∧ (ldcalFinish s).xact = .none ∧
    (ldcalFinish s).busReq = s.busReq ∧ (ldcalFinish s).status.b5Valid = s.status.b5Valid ∧
    (ldcalFinish s).events = s.events ++ [.cmdDone (ldcalFinish s).status.err] ∧
    (ldcalFinish s).calstat = s.calstat := by
  obtain ⟨c, p, b, x, v, e, -⟩ := ldcalFinish_eq s
  rw [e]
  exact ⟨rfl, rfl, rfl, rfl, rfl, rfl, rfl, rfl, rfl⟩

/-! ## What follows a read -/

theorem calReadNext_start (h : s.idx.toNat < 10) : calReadNext s = startCalRead (s.idx + 1) s :=
  if_pos h

theorem calReadNext_finish (h : s.idx.toNat = 10) : calReadNext s = ldcalFinish s :=
  if_neg (by omega)

/-- What follows a read leaves the table, CALSTAT and the first failure, and only adds to the history. -/
theorem calReadNext_rest (s : State) :
    (calReadNext s).cal = s.cal ∧ (calReadNext s).calstat = s.calstat ∧
    (calReadNext s).ffail = s.ffail ∧ (calReadNext s).ffs = s.ffs ∧ (calReadNext s).ffp = s.ffp ∧
    (calReadNext s).ffx = s.ffx ∧ ∃ es, (calReadNext s).events = s.events ++ es := by
  unfold calReadNext
  split
  · exact ⟨rfl, rfl, rfl, rfl, rfl, rfl, _, rfl⟩
  · obtain ⟨c, p, b, x, v, e, -⟩ := ldcalFinish_eq s
    rw [e]
    exact ⟨rfl, rfl, rfl, rfl, rfl, rfl, _, rfl⟩

/-! ## The outcome of a read -/

/-- State u is s with the outcome of its read taken, before what follows it (R107, R108): the first failure is
the one kept before, or else this read's. -/
structure ReadTaken (s u : State) : Prop where
  status : u.status = s.status
  idx : u.idx = s.idx
  cfg : u.cfg = s.cfg
  busReq : u.busReq = s.busReq
  event : ∃ r, u.events = s.events ++ [.calRead s.idx r]
  passed : s.xfail = none → u.ffail = s.ffail ∧ u.ffs = s.ffs ∧ u.ffp = s.ffp ∧ u.ffx = s.ffx
  failed : ∀ f, s.xfail = some f → u.ffail = true ∧
    u.ffs = (if s.ffail then s.ffs else f.status) ∧ u.ffp = (if s.ffail then s.ffp else f.phase) ∧
    u.ffx = (if s.ffail then s.ffx else f.shape)

theorem readTaken (s : State) :
    ReadTaken s (calReadOutcome s.xfail { s with xact := .none, xfail := none }) := by
  cases hf : s.xfail with
  | none =>
    exact ⟨rfl, rfl, rfl, rfl, ⟨_, rfl⟩, fun _ => ⟨rfl, rfl, rfl, rfl⟩,
      fun f h => absurd (hf.symm.trans h) (Option.some_ne_none f).symm⟩
  | some f =>
    rw [calReadOutcome, calReadFail, keepFirstFailure_eq]
    refine ⟨rfl, rfl, rfl, rfl, ⟨_, rfl⟩, fun h => absurd (hf.symm.trans h) (Option.some_ne_none f),
      fun f' h => ?_⟩
    obtain rfl := Option.some.inj (hf.symm.trans h)
    exact ⟨rfl, rfl, rfl, rfl⟩

theorem exec_ldcal_stopped {g : Byte} {h : Half} (hb : s.status.busy = true) (hh : held s = false)
    (hx : s.xact ≠ .none) (hp : s.phase = .stop) (ha : s.busAns = some (.done .stop)) :
    exec (.ldcal g h) s = .next (calReadEnd s.xfail { s with xact := .none, xfail := none }) :=
  (exec_body hb hh).trans (ldcalBody_stopped hx hp ha)

theorem exec_ldcal_taken {g : Byte} {h : Half} (hb : s.status.busy = true) (hh : held s = false)
    (hx : s.xact ≠ .none) (hp : s.phase = .stop) (ha : s.busAns = some (.done .stop)) :
    ∃ u, ReadTaken s u ∧ exec (.ldcal g h) s = .next (calReadNext u) :=
  ⟨_, readTaken s, exec_ldcal_stopped hb hh hx hp ha⟩

/-- R107: BAD_VALUE after a successful read. -/
theorem calReadOk_badValue (s : State) (j : Fin 11) :
    (calReadOk s).calstat.badValue.getLsbD j.val =
      (s.calstat.badValue.getLsbD j.val || (j.val == s.idx.toNat && badWord (pairValue s))) := by
  rw [calReadOk_calstat]
  cases hw : badWord (pairValue s) with
  | true =>
    simp only [if_true, setBit_get, Bool.and_true, beq_eq_decide, eq_comm (a := j.val)]
  | false => simp

/-- Settles O27: `calReadOk` and `calReadFail` register by register; what follows in the same step leaves
these registers (`calReadNext_rest`). -/
theorem ldcalReadOutcome : Obligations.LdcalReadOutcome := by
  intro g h s hb hh hx hp ha hi
  refine ⟨_, exec_ldcal_stopped hb hh (by simp [hx]) hp ha, fun hf => ?_, fun f hf => ?_⟩
  · rw [hf]
    obtain ⟨ecal, ecs, eff, effs, effp, effx, es, eev⟩ :=
      calReadNext_rest (calReadOk { s with xact := .none, xfail := none })
    simp only [calReadEnd, calReadOutcome, ecal, ecs, eff, effs, effp, effx, eev]
    refine ⟨fun j => ?_, rfl, fun j => calReadOk_badValue _ j, ⟨es, List.append_assoc ..⟩, rfl, rfl,
      rfl, rfl⟩
    simp only [calReadOk_cal, setCal_get, eq_comm]
    rfl
  · rw [hf]
    obtain ⟨ecal, ecs, eff, effs, effp, effx, es, eev⟩ :=
      calReadNext_rest (calReadFail f { s with xact := .none, xfail := none })
    simp only [calReadEnd, calReadOutcome, ecal, ecs, eff, effs, effp, effx, eev]
    rw [calReadFail, keepFirstFailure_eq]
    refine ⟨rfl, rfl, fun j => ?_, ⟨es, List.append_assoc ..⟩, rfl, fun h0 => ?_, fun h1 => ?_⟩
    · simp only [emit_calstat, markReadFail_calstat, setBit_get, eq_comm]
      rfl
    · simp [h0]
    · simp [h1]

/-- R47: the addresses of read i, as the numbers latched for it. -/
theorem startCalRead_begun (i : BitVec 4) (s : State) :
    (startCalRead i s).ra.toNat = (s.cfg.calBase.toNat + 2 * i.toNat) % 256 ∧
    (startCalRead i s).ia.toNat = (s.cfg.calBase.toNat + 2 * i.toNat) % 256 * 256 +
      (s.cfg.calBase.toNat + 2 * i.toNat + 1) % 256 :=
  ⟨calAddrHi_toNat s.cfg i.toNat, calPair_toNat s.cfg i.toNat⟩

/-- Settles O28: `startCalRead` for read 0 and for the read after `idx`. -/
theorem ldcalNextRead : Obligations.LdcalNextRead := by
  intro g h s hb hh begun
  refine ⟨fun hx => ?_, fun hx hp ha hi => ?_⟩
  · obtain ⟨hra, hia⟩ := startCalRead_begun 0 s
    have e : ldcalBody s = .next (startCalRead 0 s) := if_pos hx
    exact ⟨_, (exec_body hb hh).trans e,
      ⟨rfl, rfl, rfl, rfl, rfl, rfl, rfl, hra, hia, [], by rw [List.append_nil]; rfl⟩, rfl, rfl⟩
  · obtain ⟨u, hu, e⟩ := exec_ldcal_taken (g := g) (h := h) hb hh hx hp ha
    obtain ⟨r, hev⟩ := hu.event
    have hn : (u.idx + 1).toNat = s.idx.toNat + 1 := by
      rw [hu.idx]
      exact toNat_succ_of_le (by omega)
    obtain ⟨hra, hia⟩ := startCalRead_begun (u.idx + 1) u
    rw [hu.cfg, hn] at hra hia
    rw [calReadNext_start (hu.idx ▸ hi)] at e
    exact ⟨_, e, hu.status, hn, rfl, rfl, rfl, rfl, rfl, hra, hia, [.calRead s.idx r],
      congrArg (fun es => es ++ [Event.bpReq .start]) hev⟩

/-- Settles O29: read 10 is followed by the end of the command (`calReadNext_finish`), whose three cases are
those of `ldcalFinish`. -/
theorem ldcalCompletion : Obligations.LdcalCompletion := by
  intro g h s hb hh hx hp ha hi
  obtain ⟨u, hu, e⟩ := exec_ldcal_taken (g := g) (h := h) hb hh (by simp [hx]) hp ha
  obtain ⟨r, hev⟩ := hu.event
  rw [calReadNext_finish (hu.idx ▸ hi)] at e
  obtain ⟨h1, h2, h3, h4, h5, h6, h7, h8, h9⟩ := ldcalFinish_done u
  have hcv : u.status.calValid = s.status.calValid := congrArg Status.calValid hu.status
  have hbs : u.status.busStatus = s.status.busStatus := congrArg Status.busStatus hu.status
  have hfx : u.status.failXact = s.status.failXact := congrArg Status.failXact hu.status
  refine ⟨_, e, h1, h2, h3, h4, h5, h6.trans (hu.busReq.trans (held_eq_false.mp hh).1),
    h7.trans (congrArg Status.b5Valid hu.status), ⟨[.calRead s.idx r], by rw [h8, hev]⟩,
    fun f hf h0 => ?_, fun h0 => ?_, fun hf h0 => ?_⟩
  · obtain ⟨k, k1, k2, k3⟩ := hu.failed f hf
    rw [ldcalFinish_failed k, k1, k2, k3, h0]
    exact ⟨rfl, rfl, rfl, rfl, hcv⟩
  · have hk : u.ffail = true ∧ u.ffs = s.ffs ∧ u.ffp = s.ffp ∧ u.ffx = s.ffx := by
      cases hf : s.xfail with
      | none => simpa [h0] using hu.passed hf
      | some f => simpa [h0] using hu.failed f hf
    obtain ⟨k, k1, k2, k3⟩ := hk
    rw [ldcalFinish_failed k, k1, k2, k3]
    exact ⟨rfl, rfl, rfl, rfl, hcv⟩
  · obtain ⟨k, -⟩ := hu.passed hf
    rw [h0] at k
    rw [h9]
    by_cases hbad : u.calstat.badValue = 0
    · rw [ldcalFinish_good k hbad]
      exact ⟨hbs, hfx, rfl, fun h => absurd hbad h, fun _ => ⟨rfl, rfl⟩⟩
    · rw [ldcalFinish_bad k hbad]
      exact ⟨hbs, hfx, rfl, fun _ => ⟨rfl, hcv⟩, fun h => absurd h hbad⟩

end Sys2Proof.Machine
end

section
/-! PROOF. What a step of the sequencer can be, command by command, and from it the request it posts
(40_bus_transactions.md R81) and what every command leaves while it runs (20_memory.md R54). -/

namespace Sys2Proof.Machine

variable {s t : State} {i : Instr} {compute : Half → State → State}

/-! ## The steps of the sequencer -/

theorem onOutcome_cases (ok : State → State) (f : Option XFail) (u : State) :
    onOutcome ok f u = ok u ∨ ∃ f', onOutcome ok f u = raiseError (.busPhase f') u := by
  cases f with
  | none => exact .inl rfl
  | some f => exact .inr ⟨f, rfl⟩

/-- A command that makes a trigger and goes on with `ok`. -/
theorem trigger_next {ok : State → State}
    (h : withTransaction (trigStep s) (onOutcome ok) = .next t) :
    (∃ p r xf, t = post r { s with phase := p, xfail := xf }) ∨
    t = ok { s with xact := .none, xfail := none } ∨ ∃ f, t = raiseError (.busPhase f) s := by
  rcases withTransaction_next h with e | ⟨f, u, e, rfl⟩
  · exact .inl (trigStep_running e)
  · obtain ⟨-, -, rfl, rfl⟩ := trigStep_ended e
    exact .inr (onOutcome_cases ok s.xfail _)

/-- A command that makes a read and goes on with `ok`. -/
theorem read_next {ok : State → State}
    (h : withTransaction (readStep s) (onOutcome ok) = .next t) :
    (∃ p r xf hi lo, t = post r { s with phase := p, xfail := xf, dhi := hi, dlo := lo }) ∨
    t = ok { s with xact := .none, xfail := none } ∨ ∃ f, t = raiseError (.busPhase f) s := by
  rcases withTransaction_next h with e | ⟨f, u, e, rfl⟩
  · exact .inl (readStep_running e)
  · obtain ⟨-, -, rfl, rfl⟩ := readStep_ended e
    exact .inr (onOutcome_cases ok s.xfail _)

theorem initBody_next (h : initBody s = .next t) :
    t = enterPhase .initBus (.init s.bl (loByte s.hl)) s ∨ t = complete .none .idle s := by
  unfold initBody at h
  split at h <;> cases h
  · exact .inl rfl
  · exact .inr rfl

theorem trigBody_next (h : trigBody s = .next t) :
    t = startTrig s.bl s ∨ (∃ p r xf, t = post r { s with phase := p, xfail := xf }) ∨
    t = complete .none .idle s ∨ ∃ f, t = raiseError (.busPhase f) s := by
  unfold trigBody at h
  split at h
  · cases h
    exact .inl rfl
  · exact .inr (trigger_next h)

theorem rdpairBody_next (h : rdpairBody s = .next t) :
    t = startRead s.bl s.hl s ∨
    (∃ p r xf hi lo, t = post r { s with phase := p, xfail := xf, dhi := hi, dlo := lo }) ∨
    t = rdpairDone s ∨ ∃ f, t = raiseError (.busPhase f) s := by
  unfold rdpairBody at h
  split at h
  · cases h
    exact .inl rfl
  · exact .inr (read_next h)

theorem ldcalBody_next (h : ldcalBody s = .next t) :
    t = startCalRead 0 s ∨
    (∃ p r xf hi lo, t = post r { s with phase := p, xfail := xf, dhi := hi, dlo := lo }) ∨
    t = calReadEnd s.xfail { s with xact := .none, xfail := none } := by
  unfold ldcalBody at h
  split at h
  · cases h
    exact .inl rfl
  rcases withTransaction_next h with e | ⟨f, u, e, rfl⟩
  · exact .inr (.inl (readStep_running e))
  · obtain ⟨-, -, rfl, rfl⟩ := readStep_ended e
    exact .inr (.inr rfl)

theorem computeBody_cases (h : computeBody compute s = .next t) :
    t = enterCompute s ∨ t = compute s.hl s := by
  unfold computeBody at h
  split at h <;> cases h
  · exact .inl rfl
  · exact .inr rfl

/-- A step that is none of LDCAL's and writes no result. -/
inductive BusStep (s : State) : State → Prop where
  | stage (n : BitVec 3) : BusStep s { s with stage := n }
  | request (p : Phase) (r : BusReq) (xf : Option XFail) (hi lo : Byte) :
    BusStep s (post r { s with phase := p, xfail := xf, dhi := hi, dlo := lo })
  | trigger (tb : Byte) : BusStep s (startTrig tb s)
  | read (ra : Byte) (ia : Half) : BusStep s (startRead ra ia s)
  | wait (mode : ConvMode) :
    BusStep s (conversionAsked mode { s with xact := .none, xfail := none })
  | compute : BusStep s (enterCompute s)
  | failed (f : XFail) : BusStep s (raiseError (.busPhase f) s)
  | done : BusStep s (complete .none .idle s)

theorem initBody_busStep (h : initBody s = .next t) : BusStep s t := by
  rcases initBody_next h with rfl | rfl
  · exact .request .initBus _ s.xfail s.dhi s.dlo
  · exact .done

theorem trigBody_busStep (h : trigBody s = .next t) : BusStep s t := by
  rcases trigBody_next h with rfl | ⟨p, r, xf, rfl⟩ | rfl | ⟨f, rfl⟩
  · exact .trigger s.bl
  · exact .request p r xf s.dhi s.dlo
  · exact .done
  · exact .failed f

theorem rdpairBody_busStep (h : rdpairBody s = .next t) : BusStep s t ∨ t = rdpairDone s := by
  rcases rdpairBody_next h with rfl | ⟨p, r, xf, hi, lo, rfl⟩ | rfl | ⟨f, rfl⟩
  · exact .inl (.read s.bl s.hl)
  · exact .inl (.request p r xf hi lo)
  · exact .inr rfl
  · exact .inl (.failed f)

/-- R125: a composite read writes RESULT and rawl at the end of stage 3, and computes in stage 4. -/
theorem compositeBody_busStep {ctrl : Byte} {mode : ConvMode}
    (h : compositeBody ctrl mode compute s = .next t) :
    BusStep s t ∨ (s.stage = 3 ∧ t = resultReadDone { s with xact := .none, xfail := none }) ∨
    (s.stage = 4 ∧ t = compute s.rawl s) := by
  unfold compositeBody at h
  split at h
  · cases h
    exact .inl (.stage 1)
  split at h
  · left
    split at h
    · cases h
      exact .trigger ctrl
    · rcases trigger_next h with ⟨p, r, xf, rfl⟩ | rfl | ⟨f, rfl⟩
      · exact .request p r xf s.dhi s.dlo
      · exact .wait mode
      · exact .failed f
  split at h
  · cases h
    exact .inl (.stage 3)
  split at h
  case isTrue h3 =>
    split at h
    · cases h
      exact .inl (.read _ _)
    · rcases read_next h with ⟨p, r, xf, hi, lo, rfl⟩ | rfl | ⟨f, rfl⟩
      · exact .inl (.request p r xf hi lo)
      · exact .inr (.inl ⟨h3, rfl⟩)
      · exact .inl (.failed f)
  split at h <;> cases h
  exact .inr (.inr ⟨by assumption, rfl⟩)

/-! ## A step goes on or completes -/

/-- No step of a running command touches the latched word, REJECT, or what is not the block's. -/
structure Latched (s t : State) : Prop where
  opl : t.opl = s.opl
  bl : t.bl = s.bl
  hl : t.hl = s.hl
  cfg : t.cfg = s.cfg
  hostReads : t.hostReads = s.hostReads
  moves : t.moves = s.moves
  reject : t.status.reject = s.status.reject
  lastOp : t.status.lastOp = s.status.lastOp

/-- The events added, where at most one request is posted, last (R81). -/
structure Adds (s t : State) (es : List Event) : Prop where
  events : t.events = s.events ++ es
  request : (t.busReq = s.busReq ∧ ∀ r, .bpReq r ∉ es) ∨
    ∃ r es', t.busReq = some r ∧ es = es' ++ [.bpReq r] ∧ ∀ q, .bpReq q ∉ es'

/-- The command goes on: STATUS is not written (R54). -/
structure GoesOn (s t : State) : Prop extends Latched s t where
  status : t.status = s.status
  adds : ∃ es, Adds s t es ∧ ∀ c, .cmdDone c ∉ es

/-- The command completes (R54). -/
structure Completes (s t : State) : Prop extends Latched s t where
  busy : t.status.busy = false
  done : t.status.done = true
  phase : t.phase = .idle
  stage : t.stage = 0
  xact : t.xact = .none
  adds : ∃ es, Adds s t (es ++ [.cmdDone t.status.err])

theorem adds_nil (he : t.events = s.events) (hr : t.busReq = s.busReq) : Adds s t [] :=
  ⟨by rw [he, List.append_nil], .inl ⟨hr, by simp⟩⟩

theorem adds_request {r : BusReq} (he : t.events = s.events ++ [.bpReq r])
    (hr : t.busReq = some r) : Adds s t [.bpReq r] :=
  ⟨he, .inr ⟨r, [], hr, rfl, by simp⟩⟩

theorem adds_other {e : Event} (he : t.events = s.events ++ [e]) (hr : t.busReq = s.busReq)
    (hn : ∀ r, e ≠ .bpReq r) : Adds s t [e] :=
  ⟨he, .inl ⟨hr, fun r h => hn r (List.mem_singleton.mp h).symm⟩⟩

/-- A command may write results and add events in the step that completes it. -/
theorem completes_complete (c : ErrCode) (p : Phase) {u : State} {es : List Event} (k : Latched s u)
    (he : u.events = s.events ++ es) (hr : u.busReq = s.busReq) (hn : ∀ r, .bpReq r ∉ es) :
    Completes s (complete c p u) where
  opl := k.opl
  bl := k.bl
  hl := k.hl
  cfg := k.cfg
  hostReads := k.hostReads
  moves := k.moves
  reject := k.reject
  lastOp := k.lastOp
  busy := rfl
  done := rfl
  phase := rfl
  stage := rfl
  xact := rfl
  adds := ⟨es, by rw [complete_events, he, List.append_assoc]; rfl, .inl ⟨hr, by simp [hn]⟩⟩

theorem Latched.refl (s : State) : Latched s s := ⟨rfl, rfl, rfl, rfl, rfl, rfl, rfl, rfl⟩

theorem BusStep.goes (h : BusStep s t) : GoesOn s t ∨ Completes s t := by
  have ends (c : ErrCode) (p : Phase) {u : State} (k : Latched s u) (he : u.events = s.events)
      (hr : u.busReq = s.busReq) : Completes s (complete c p u) :=
    completes_complete c p k (he.trans (List.append_nil _).symm) hr (by simp)
  cases h with
  | stage n => exact .inl ⟨{ Latched.refl s with }, rfl, [], adds_nil rfl rfl, by simp⟩
  | request p r xf hi lo => exact .inl ⟨{ Latched.refl s with }, rfl, [.bpReq r], adds_request rfl rfl, by simp⟩
  | trigger tb => exact .inl ⟨{ Latched.refl s with }, rfl, [.bpReq .start], adds_request rfl rfl, by simp⟩
  | read ra ia => exact .inl ⟨{ Latched.refl s with }, rfl, [.bpReq .start], adds_request rfl rfl, by simp⟩
  | wait mode =>
    exact .inl ⟨{ Latched.refl s with }, rfl, [.convReq mode], adds_other rfl rfl (by simp), by simp⟩
  | compute => exact .inl ⟨{ Latched.refl s with }, rfl, [], adds_nil rfl rfl, by simp⟩
  | failed f => exact .inr (ends .busPhase f.phase { Latched.refl s with } rfl rfl)
  | done => exact .inr (ends .none .idle { Latched.refl s with } rfl rfl)

theorem completes_computeTemp (raw : Half) (s : State) : Completes s (computeTemp raw s) := by
  cases h : tempf s.cfg s.cal raw with
  | none =>
    rw [computeTemp_divZero h]
    exact completes_complete .divZero .compute (es := []) { Latched.refl s with } (List.append_nil _).symm rfl
      (by simp)
  | some r =>
    rw [computeTemp_result h]
    exact completes_complete .none .idle (es := [.tempResult r.1 r.2]) { Latched.refl s with } rfl rfl (by simp)

theorem completes_computePress (raw : Half) (s : State) : Completes s (computePress raw s) := by
  cases h : presf s.cfg s.cal s.b5 raw with
  | none =>
    rw [computePress_divZero h]
    exact completes_complete .divZero .compute (es := []) { Latched.refl s with } (List.append_nil _).symm rfl
      (by simp)
  | some p =>
    rw [computePress_result h]
    exact completes_complete .none .idle (es := [.pressResult p]) { Latched.refl s with } rfl rfl (by simp)

/-- R107: the end of a read is followed by the next one, or by the end of the command. -/
theorem goes_calReadEnd (s : State) :
    GoesOn s (calReadEnd s.xfail { s with xact := .none, xfail := none }) ∨
    Completes s (calReadEnd s.xfail { s with xact := .none, xfail := none }) := by
  obtain ⟨cal, cs, ff, st, p, x, es, e⟩ :=
    calReadOutcome_rest s.xfail { s with xact := .none, xfail := none }
  obtain ⟨r, hev⟩ := calReadOutcome_events s.xfail { s with xact := .none, xfail := none }
  rw [calReadEnd]
  rw [e] at hev ⊢
  have hev' : es = s.events ++ [.calRead s.idx r] := hev
  subst hev'
  unfold calReadNext
  split
  · refine .inl ⟨{ Latched.refl s with }, rfl, [.calRead s.idx r, .bpReq .start],
      ⟨List.append_assoc .., .inr ⟨.start, [.calRead s.idx r], rfl, rfl, by simp⟩⟩, by simp⟩
  · obtain ⟨c, p, b, x, v, e, -⟩ := ldcalFinish_eq _
    rw [e]
    exact .inr (completes_complete c p (es := [.calRead s.idx r]) { Latched.refl s with } rfl rfl (by simp))

/-- Every step of a running command goes on with it or completes it. -/
theorem bodyOfOp_goes (h : bodyOfOp i.op s = .next t) : GoesOn s t ∨ Completes s t := by
  have composite {ctrl : Byte} {mode : ConvMode} {compute : Half → State → State}
      (hc : ∀ raw, Completes s (compute raw s)) (h : compositeBody ctrl mode compute s = .next t) :
      GoesOn s t ∨ Completes s t := by
    rcases compositeBody_busStep h with h | ⟨-, rfl⟩ | ⟨-, rfl⟩
    · exact h.goes
    · exact .inl ⟨{ Latched.refl s with }, rfl, [], adds_nil rfl rfl, by simp⟩
    · exact .inr (hc _)
  have computes {compute : Half → State → State} (hc : ∀ raw, Completes s (compute raw s))
      (h : computeBody compute s = .next t) : GoesOn s t ∨ Completes s t := by
    rcases computeBody_cases h with rfl | rfl
    · exact BusStep.compute.goes
    · exact .inr (hc _)
  cases i with
  | init _ _ _ => exact (initBody_busStep h).goes
  | trig _ _ => exact (trigBody_busStep h).goes
  | rdpair _ _ =>
    rcases rdpairBody_busStep h with h | rfl
    · exact h.goes
    · exact .inr (completes_complete .none .idle (es := []) { Latched.refl s with } (List.append_nil _).symm rfl
        (by simp))
  | ldcal _ _ =>
    rcases ldcalBody_next h with rfl | ⟨p, r, xf, hi, lo, rfl⟩ | rfl
    · exact .inl ⟨{ Latched.refl s with }, rfl, [.bpReq .start], adds_request rfl rfl, by simp⟩
    · exact (BusStep.request p r xf hi lo).goes
    · exact goes_calReadEnd s
  | ctemp _ _ => exact computes (fun raw => completes_computeTemp raw s) h
  | cpres _ _ => exact computes (fun raw => completes_computePress raw s) h
  | rdtemp _ _ => exact composite (fun raw => completes_computeTemp raw s) h
  | rdpres _ _ => exact composite (fun raw => completes_computePress raw s) h

theorem exec_goes (hb : s.status.busy = true) (h : exec i s = .next t) :
    GoesOn s t ∨ Completes s t := by
  rw [exec_eq_runCommand] at h
  rcases runCommand_next h with ⟨hb', -⟩ | ⟨-, -, rfl⟩ | ⟨-, -, h⟩
  · rw [hb] at hb'
    cases hb'
  · exact .inl ⟨.refl _, rfl, [], adds_nil rfl rfl, by simp⟩
  · exact bodyOfOp_goes h

/-! ## The obligations -/

/-- Settles O56: the two cases of `exec_goes`. -/
theorem frameRunning : Obligations.FrameRunning := by
  intro i s t hb h
  rcases exec_goes hb h with k | k
  · obtain ⟨es, ha, hc⟩ := k.adds
    exact ⟨k.opl, k.bl, k.hl, k.cfg, k.hostReads, k.moves, k.reject, k.lastOp, es, ha.events,
      fun _ => ⟨k.status, hc⟩, fun hn => absurd (hn.symm.trans (congrArg Status.busy k.status))
        (by simp [hb])⟩
  · obtain ⟨es, ha⟩ := k.adds
    exact ⟨k.opl, k.bl, k.hl, k.cfg, k.hostReads, k.moves, k.reject, k.lastOp, _, ha.events,
      fun hn => absurd (hn.symm.trans k.busy) (by simp),
      fun _ => ⟨k.done, k.phase, k.stage, k.xact, List.getLast?_concat⟩⟩

/-- R81: the sequencer's turn posts at most one request, recorded last. -/
theorem sequencerTurn_adds (h : sequencerTurn exec s = .next t) : ∃ es, Adds s t es := by
  unfold sequencerTurn at h
  split at h
  case isTrue hb =>
    split at h
    case h_1 i hd =>
      rcases exec_goes hb h with k | k
      · obtain ⟨es, ha, -⟩ := k.adds
        exact ⟨es, ha⟩
      · obtain ⟨es, ha⟩ := k.adds
        exact ⟨_, ha⟩
    case h_2 => cases h
  case isFalse =>
    cases h
    exact ⟨[], adds_nil rfl rfl⟩

/-- Settles O18: the sequencer's turn (`sequencerTurn_adds`), the controller's answer and the hold
(`exec_held`). -/
theorem busHandshake : Obligations.BusHandshake := by
  refine ⟨fun s t ms hn hm h => ?_, fun s r b ms hr hm => ?_,
    fun s r i hr hb => exec_held i hb (held_iff.mpr (.inl (by rw [hr]; rfl)))⟩
  · rw [step_cons hm] at h
    obtain ⟨es, hes⟩ := sequencerTurn_adds h
    refine ⟨es, hes.events, fun ht => ?_, fun r ht => ?_⟩
    · rcases hes.request with ⟨-, hno⟩ | ⟨r, -, hr, -⟩
      · exact hno
      · rw [ht] at hr
        cases hr
    · rcases hes.request with ⟨he, -⟩ | ⟨r', es', hr, k⟩
      · rw [ht] at he
        cases he.trans hn
      · obtain rfl := Option.some.inj (ht.symm.trans hr)
        exact ⟨es', k⟩
  · have e : (answerOf r b).byte = if r = .read ∨ r = .status then some b else none := by
      cases r <;> rfl
    have hr' : { s with moves := ms }.busReq = some r := hr
    rw [step_cons hm, agentMove, busAnswer_some b hr', e]
    rfl

end Sys2Proof.Machine
end

section
/-! PROOF. What each command leaves unchanged (20_memory.md R54, 40_bus_transactions.md R96 to R99,
41_calibration_compensation.md R107 to R120, 42_composite_reads.md R125 to R128): at acceptance, by the ends of
`accept_cases`; while it runs, by the list of its steps. -/

namespace Sys2Proof.Machine

variable {s t : State} {i : Instr}

/-! ## The registers by what writes them -/

/-- LDCAL's registers, and what is not the block's. -/
structure KeepsTable (s t : State) : Prop where
  cal : t.cal = s.cal
  calstat : t.calstat = s.calstat
  calValid : t.status.calValid = s.status.calValid
  ffs : t.ffs = s.ffs
  ffp : t.ffp = s.ffp
  ffx : t.ffx = s.ffx
  cfg : t.cfg = s.cfg
  hostReads : t.hostReads = s.hostReads
  moves : t.moves = s.moves

/-- The registers of the compute steps. -/
structure KeepsResults (s t : State) : Prop where
  temp : t.temp = s.temp
  press : t.press = s.press
  b5 : t.b5 = s.b5
  b5Valid : t.status.b5Valid = s.status.b5Valid

/-- The registers of the transactions and the ports. -/
structure KeepsPorts (s t : State) : Prop where
  result : t.result = s.result
  dhi : t.dhi = s.dhi
  dlo : t.dlo = s.dlo
  ra : t.ra = s.ra
  ia : t.ia = s.ia
  tb : t.tb = s.tb
  rawl : t.rawl = s.rawl
  conv : t.conv = s.conv
  busReq : t.busReq = s.busReq

/-- The progress of a load, which only acceptance clears besides LDCAL. -/
structure KeepsIndex (s t : State) : Prop where
  idx : t.idx = s.idx
  ffail : t.ffail = s.ffail

theorem KeepsTable.refl (s : State) : KeepsTable s s := ⟨rfl, rfl, rfl, rfl, rfl, rfl, rfl, rfl, rfl⟩
theorem KeepsResults.refl (s : State) : KeepsResults s s := ⟨rfl, rfl, rfl, rfl⟩
theorem KeepsPorts.refl (s : State) : KeepsPorts s s := ⟨rfl, rfl, rfl, rfl, rfl, rfl, rfl, rfl, rfl⟩
theorem KeepsIndex.refl (s : State) : KeepsIndex s s := ⟨rfl, rfl⟩

/-! ## Acceptance (R53) -/

/-- What the acceptance of a command but LDCAL leaves. -/
structure AcceptKeeps (s t : State) : Prop extends KeepsTable s t, KeepsResults s t, KeepsPorts s t where
  stage : t.stage = 0

theorem accept_keeps {v : Word} (s : State) (ho : opField v ≠ 0x4#4) : AcceptKeeps s (accept v s) := by
  have ends (e : ErrCode) : AcceptKeeps s (complete e .idle (accepted v s)) :=
    { KeepsTable.refl s, KeepsResults.refl s, KeepsPorts.refl s with stage := rfl }
  rcases accept_cases v s with ⟨-, e⟩ | ⟨-, -, -, e⟩ | ⟨-, -, -, e⟩ | ⟨-, -, -, e⟩ <;> rw [e]
  · exact ends .illegalCmd
  · exact ends .uncalibrated
  · exact ends .uncalibrated
  · rw [startCommand_other (s := accepted v s) ho]
    exact { KeepsTable.refl s, KeepsResults.refl s, KeepsPorts.refl s with stage := rfl }

/-- An acceptance records no request of either port. -/
theorem accept_events (v : Word) (s : State) : ∃ es, (accept v s).events = s.events ++ es ∧
    (∀ r, .bpReq r ∉ es) ∧ ∀ m, .convReq m ∉ es := by
  have ends (e : ErrCode) : (complete e .idle (accepted v s)).events =
      s.events ++ [.cmdAccepted v, .cmdDone e] := by simp
  rcases accept_cases v s with ⟨-, e⟩ | ⟨-, -, -, e⟩ | ⟨-, -, -, e⟩ | ⟨-, -, -, e⟩ <;> rw [e]
  · exact ⟨_, ends .illegalCmd, by simp, by simp⟩
  · exact ⟨_, ends .uncalibrated, by simp, by simp⟩
  · exact ⟨_, ends .uncalibrated, by simp, by simp⟩
  · exact ⟨[.cmdAccepted v], startCommand_events _, by simp, by simp⟩

/-- What a command can do: be accepted, be held, or take the step of its body. -/
theorem exec_cases (h : exec i s = .next t) :
    (s.status.busy = false ∧ t = accept (encode i) s) ∨ (s.status.busy = true ∧ t = s) ∨
    (s.status.busy = true ∧ bodyOfOp i.op s = .next t) := by
  rw [exec_eq_runCommand] at h
  rcases runCommand_next h with ⟨hb, e⟩ | ⟨hb, -, e⟩ | ⟨hb, -, e⟩
  · exact .inl ⟨hb, e⟩
  · exact .inr (.inl ⟨hb, e⟩)
  · exact .inr (.inr ⟨hb, e⟩)

/-! ## INIT, TRIG and RDPAIR -/

theorem BusStep.keepsTable (h : BusStep s t) : KeepsTable s t := by
  cases h <;> exact { KeepsTable.refl s with }

theorem BusStep.keepsResults (h : BusStep s t) : KeepsResults s t := by
  cases h <;> exact { KeepsResults.refl s with }

theorem BusStep.keepsIndex (h : BusStep s t) : KeepsIndex s t := by
  cases h <;> exact { KeepsIndex.refl s with }

theorem BusStep.keepsRaw (h : BusStep s t) : t.result = s.result ∧ t.rawl = s.rawl := by
  cases h <;> exact ⟨rfl, rfl⟩

/-- What INIT, TRIG and RDPAIR leave in every step. -/
structure BusKeeps (s t : State) : Prop extends KeepsTable s t, KeepsResults s t where
  rawl : t.rawl = s.rawl
  conv : t.conv = s.conv
  stage : t.stage = s.stage ∨ t.stage = 0
  index : s.status.busy = true → KeepsIndex s t

/-- What INIT and TRIG leave besides. -/
structure ReadKeeps (s t : State) : Prop where
  result : t.result = s.result
  dhi : t.dhi = s.dhi
  dlo : t.dlo = s.dlo
  ra : t.ra = s.ra
  ia : t.ia = s.ia

theorem ReadKeeps.refl (s : State) : ReadKeeps s s := ⟨rfl, rfl, rfl, rfl, rfl⟩

theorem BusStep.busKeeps (h : BusStep s t) (hc : t.conv = s.conv)
    (hs : t.stage = s.stage ∨ t.stage = 0) : BusKeeps s t :=
  { h.keepsTable, h.keepsResults with
    rawl := h.keepsRaw.2, conv := hc, stage := hs, index := fun _ => h.keepsIndex }

theorem initBody_keeps (h : initBody s = .next t) :
    BusKeeps s t ∧ ReadKeeps s t ∧ t.tb = s.tb := by
  have k := initBody_busStep h
  rcases initBody_next h with rfl | rfl
  · exact ⟨k.busKeeps rfl (.inl rfl), { ReadKeeps.refl s with }, rfl⟩
  · exact ⟨k.busKeeps rfl (.inr rfl), { ReadKeeps.refl s with }, rfl⟩

theorem trigBody_keeps (h : trigBody s = .next t) : BusKeeps s t ∧ ReadKeeps s t := by
  have k := trigBody_busStep h
  rcases trigBody_next h with rfl | ⟨p, r, xf, rfl⟩ | rfl | ⟨f, rfl⟩
  · exact ⟨k.busKeeps rfl (.inl rfl), { ReadKeeps.refl s with }⟩
  · exact ⟨k.busKeeps rfl (.inl rfl), { ReadKeeps.refl s with }⟩
  · exact ⟨k.busKeeps rfl (.inr rfl), { ReadKeeps.refl s with }⟩
  · exact ⟨k.busKeeps rfl (.inr rfl), { ReadKeeps.refl s with }⟩

/-- R99: RESULT is written in a completion with NONE only. -/
theorem rdpairBody_keeps (h : rdpairBody s = .next t) :
    BusKeeps s t ∧ t.tb = s.tb ∧
    (t.result ≠ s.result → t.status.busy = false ∧ t.status.err = .none) := by
  rcases rdpairBody_next h with rfl | ⟨p, r, xf, hi, lo, rfl⟩ | rfl | ⟨f, rfl⟩
  · exact ⟨(BusStep.read _ _).busKeeps rfl (.inl rfl), rfl, fun k => absurd rfl k⟩
  · exact ⟨(BusStep.request p r xf hi lo).busKeeps rfl (.inl rfl), rfl, fun k => absurd rfl k⟩
  · exact ⟨{ KeepsTable.refl s, KeepsResults.refl s with
      rawl := rfl, conv := rfl, stage := .inr rfl, index := fun _ => { KeepsIndex.refl s with } },
      rfl, fun _ => ⟨rfl, rfl⟩⟩
  · exact ⟨(BusStep.failed f).busKeeps rfl (.inr rfl), rfl, fun k => absurd rfl k⟩

theorem AcceptKeeps.busKeeps (k : AcceptKeeps s t) (hb : s.status.busy = false) : BusKeeps s t :=
  { k with stage := .inr k.stage, index := fun h => absurd (hb.symm.trans h) Bool.false_ne_true }

/-- INIT, TRIG and RDPAIR in any step: accepted, held or running. -/
theorem busCommand_keeps
    (hi : (∃ c p g, i = .init c p g) ∨ (∃ c g, i = .trig c g) ∨ ∃ a b, i = .rdpair a b)
    (h : exec i s = .next t) :
    BusKeeps s t ∧ ((∀ a b, i ≠ .rdpair a b) → ReadKeeps s t) ∧
    ((∀ c g, i ≠ .trig c g) → t.tb = s.tb) ∧
    (t.result ≠ s.result → t.status.busy = false ∧ t.status.err = .none) := by
  rcases exec_cases h with ⟨hb, rfl⟩ | ⟨hb, rfl⟩ | ⟨hb, h⟩
  · have ho : opField (encode i) ≠ 0x4#4 := by
      rcases hi with ⟨c, p, g, rfl⟩ | ⟨c, g, rfl⟩ | ⟨a, b, rfl⟩ <;> simp [Instr.op]
    have k := accept_keeps s ho
    exact ⟨k.busKeeps hb, fun _ => { k with }, fun _ => k.tb, fun hr => absurd k.result hr⟩
  · exact ⟨{ KeepsTable.refl t, KeepsResults.refl t with
      rawl := rfl, conv := rfl, stage := .inl rfl, index := fun _ => .refl t },
      fun _ => .refl t, fun _ => rfl, fun hr => absurd rfl hr⟩
  · rcases hi with ⟨c, p, g, rfl⟩ | ⟨c, g, rfl⟩ | ⟨a, b, rfl⟩
    · obtain ⟨k, kr, kt⟩ := initBody_keeps h
      exact ⟨k, fun _ => kr, fun _ => kt, fun hr => absurd kr.result hr⟩
    · obtain ⟨k, kr⟩ := trigBody_keeps h
      exact ⟨k, fun _ => kr, fun hn => absurd rfl (hn c g), fun hr => absurd kr.result hr⟩
    · obtain ⟨k, kt, kr⟩ := rdpairBody_keeps h
      exact ⟨k, fun hn => absurd rfl (hn a b), fun _ => kt, kr⟩

/-- Settles O57: `busCommand_keeps`, register by register. -/
theorem frameBusCommands : Obligations.FrameBusCommands := by
  intro i s t hi h
  obtain ⟨k, kr, kt, kres⟩ := busCommand_keeps hi h
  exact ⟨k.temp, k.press, k.b5, k.cal, k.calstat, k.calValid, k.b5Valid, k.rawl, k.conv, k.ffs, k.ffp,
    k.ffx, k.cfg, k.hostReads, k.moves, k.stage, fun hb => ⟨(k.index hb).idx, (k.index hb).ffail⟩,
    fun hn => ⟨(kr hn).result, (kr hn).dhi, (kr hn).dlo, (kr hn).ra, (kr hn).ia⟩, kt, kres⟩

end Sys2Proof.Machine
end

section
/-! PROOF. What LDCAL, CTEMP, CPRES, RDTEMP and RDPRES leave unchanged (41_calibration_compensation.md R107 to
R120, 42_composite_reads.md R125 to R128). -/

namespace Sys2Proof.Machine

variable {s t : State} {i : Instr} {compute : Half → State → State}

/-! ## LDCAL -/

/-- What LDCAL leaves in every step. -/
structure LdcalKeeps (s t : State) : Prop where
  result : t.result = s.result
  temp : t.temp = s.temp
  press : t.press = s.press
  b5 : t.b5 = s.b5
  tb : t.tb = s.tb
  rawl : t.rawl = s.rawl
  conv : t.conv = s.conv
  cfg : t.cfg = s.cfg
  hostReads : t.hostReads = s.hostReads
  moves : t.moves = s.moves

theorem LdcalKeeps.refl (s : State) : LdcalKeeps s s :=
  ⟨rfl, rfl, rfl, rfl, rfl, rfl, rfl, rfl, rfl, rfl⟩

/-- R107: a running LDCAL writes the entry idx and the bits idx of CALSTAT alone, and CAL_VALID in a
completion with NONE. -/
structure LoadStep (s t : State) : Prop extends LdcalKeeps s t where
  entries : ∀ j : Fin 11, j.val ≠ s.idx.toNat → t.cal[j] = s.cal[j] ∧
    t.calstat.readFail.getLsbD j.val = s.calstat.readFail.getLsbD j.val ∧
    t.calstat.badValue.getLsbD j.val = s.calstat.badValue.getLsbD j.val
  b5Valid : t.status.b5Valid = s.status.b5Valid
  calValid : t.status.calValid ≠ s.status.calValid →
    t.status.busy = false ∧ t.status.err = .none ∧ t.status.calValid = true

theorem LoadStep.refl (s : State) : LoadStep s s :=
  { LdcalKeeps.refl s with
    entries := fun _ _ => ⟨rfl, rfl, rfl⟩, b5Valid := rfl, calValid := fun h => absurd rfl h }

theorem calReadOutcome_entries (f : Option XFail) (s : State) (j : Fin 11) (hj : j.val ≠ s.idx.toNat) :
    (calReadOutcome f s).cal[j] = s.cal[j] ∧
    (calReadOutcome f s).calstat.readFail.getLsbD j.val = s.calstat.readFail.getLsbD j.val ∧
    (calReadOutcome f s).calstat.badValue.getLsbD j.val = s.calstat.badValue.getLsbD j.val := by
  cases f with
  | none =>
    refine ⟨(setCal_get _ _ _ j).trans (if_neg (Ne.symm hj)), rfl, ?_⟩
    rw [calReadOutcome, calReadOk_badValue]
    simp [hj]
  | some f =>
    rw [calReadOutcome, calReadFail, keepFirstFailure_eq]
    exact ⟨rfl, setBit_get_ne _ (Ne.symm hj), rfl⟩

theorem loadStep_calReadEnd (f : Option XFail) (s : State) : LoadStep s (calReadEnd f s) := by
  have entries (j : Fin 11) (hj : j.val ≠ s.idx.toNat) :
      (calReadEnd f s).cal[j] = s.cal[j] ∧
      (calReadEnd f s).calstat.readFail.getLsbD j.val = s.calstat.readFail.getLsbD j.val ∧
      (calReadEnd f s).calstat.badValue.getLsbD j.val = s.calstat.badValue.getLsbD j.val := by
    obtain ⟨ecal, ecs, -⟩ := calReadNext_rest (calReadOutcome f s)
    rw [calReadEnd, ecal, ecs]
    exact calReadOutcome_entries f s j hj
  obtain ⟨cal, cs, ff, st, p, x, es, e⟩ := calReadOutcome_rest f s
  suffices k : LdcalKeeps s (calReadEnd f s) ∧
      (calReadEnd f s).status.b5Valid = s.status.b5Valid ∧
      ((calReadEnd f s).status.calValid ≠ s.status.calValid →
        (calReadEnd f s).status.busy = false ∧ (calReadEnd f s).status.err = .none ∧
        (calReadEnd f s).status.calValid = true) from
    { k.1 with entries := entries, b5Valid := k.2.1, calValid := k.2.2 }
  rw [calReadEnd, e]
  unfold calReadNext
  split
  · exact ⟨{ LdcalKeeps.refl s with }, rfl, fun h => absurd rfl h⟩
  · obtain ⟨c, p, b, x, v, e, hv⟩ := ldcalFinish_eq _
    rw [e]
    exact ⟨{ LdcalKeeps.refl s with }, rfl, fun h => ⟨rfl, hv h⟩⟩

theorem ldcalBody_keeps (h : ldcalBody s = .next t) : LoadStep s t := by
  rcases ldcalBody_next h with rfl | ⟨p, r, xf, hi, lo, rfl⟩ | rfl
  · exact { LoadStep.refl s with }
  · exact { LoadStep.refl s with }
  · exact { loadStep_calReadEnd s.xfail { s with xact := .none, xfail := none } with }

/-- R53: the acceptance of an LDCAL clears CALSTAT and the two flags, and nothing of the table. -/
theorem accept_ldcal (g : Byte) (h : Half) (s : State) :
    accept (encode (.ldcal g h)) s =
      clearCalibration (setBusy (accepted (encode (.ldcal g h)) s)) := by
  have ho : opField (encode (.ldcal g h)) = 0x4#4 := by simp [Instr.op]
  rw [accept_starts (legal_encode _) (not_lacks_ldcal ho),
    startCommand_ldcal (s := accepted (encode (.ldcal g h)) s) ho]

/-- Settles O58: the acceptance (`accept_ldcal`), the hold, and a running step (`ldcalBody_keeps`). -/
theorem frameLdcal : Obligations.FrameLdcal := by
  intro g h s t he
  rcases exec_cases he with ⟨hb, rfl⟩ | ⟨hb, rfl⟩ | ⟨hb, hbody⟩
  · rw [accept_ldcal]
    exact ⟨rfl, rfl, rfl, rfl, rfl, rfl, rfl, rfl, rfl, rfl, fun _ _ => rfl,
      fun _ => ⟨rfl, rfl, rfl, rfl⟩, fun h => absurd (hb.symm.trans h) Bool.false_ne_true⟩
  · exact ⟨rfl, rfl, rfl, rfl, rfl, rfl, rfl, rfl, rfl, rfl, fun _ _ => rfl,
      fun h => absurd (h.symm.trans hb) Bool.false_ne_true,
      fun _ => ⟨rfl, fun h => absurd rfl h, fun _ _ => ⟨rfl, rfl⟩⟩⟩
  · have k := ldcalBody_keeps hbody
    exact ⟨k.result, k.temp, k.press, k.b5, k.tb, k.rawl, k.conv, k.cfg, k.hostReads, k.moves,
      fun j hj => (k.entries j hj).1, fun h => absurd (h.symm.trans hb) Bool.false_ne_true,
      fun _ => ⟨k.b5Valid, k.calValid, fun j hj => (k.entries j hj).2⟩⟩

/-! ## The two computations -/

/-- What a computation of either kind leaves. -/
structure ComputeKeeps (s t : State) : Prop extends KeepsTable s t, KeepsPorts s t, KeepsIndex s t where
  busStatus : t.status.busStatus = s.status.busStatus
  failXact : t.status.failXact = s.status.failXact
  adds : ∃ es, t.events = s.events ++ es ∧ (∀ r, .bpReq r ∉ es) ∧ ∀ m, .convReq m ∉ es

/-- R114: a computation of the temperature leaves PRESS, and writes its results in a completion with NONE. -/
structure TempKeeps (s t : State) : Prop extends ComputeKeeps s t where
  press : t.press = s.press
  results : t.temp ≠ s.temp ∨ t.b5 ≠ s.b5 ∨ t.status.b5Valid ≠ s.status.b5Valid →
    t.status.err = .none ∧ t.status.b5Valid = true

/-- R120: a computation of the pressure leaves TEMP, B5 and B5_VALID, and writes PRESS in a completion with
NONE. -/
structure PressKeeps (s t : State) : Prop extends ComputeKeeps s t where
  temp : t.temp = s.temp
  b5 : t.b5 = s.b5
  b5Valid : t.status.b5Valid = s.status.b5Valid
  results : t.press ≠ s.press → t.status.err = .none

theorem computeKeeps_complete (c : ErrCode) (p : Phase) {u : State} (k : ComputeKeeps s u) :
    ComputeKeeps s (complete c p u) := by
  obtain ⟨es, he, hr, hm⟩ := k.adds
  have adds : ∃ es, (complete c p u).events = s.events ++ es ∧ (∀ r, .bpReq r ∉ es) ∧
      ∀ m, .convReq m ∉ es :=
    ⟨es ++ [.cmdDone c], by rw [complete_events, he, List.append_assoc], by simp [hr], by simp [hm]⟩
  exact { k with adds := adds }

theorem ComputeKeeps.refl (s : State) : ComputeKeeps s s :=
  { KeepsTable.refl s, KeepsPorts.refl s, KeepsIndex.refl s with
    busStatus := rfl, failXact := rfl, adds := ⟨[], (List.append_nil _).symm, by simp, by simp⟩ }

theorem computeTemp_keeps (raw : Half) (s : State) : TempKeeps s (computeTemp raw s) := by
  cases h : tempf s.cfg s.cal raw with
  | none =>
    rw [computeTemp_divZero h]
    exact { computeKeeps_complete .divZero .compute (.refl s) with
      press := rfl, results := fun k => absurd k (by simp [raiseError]) }
  | some r =>
    rw [computeTemp_result h]
    have k : ComputeKeeps s (emit (.tempResult r.1 r.2)
        { s with temp := r.1, b5 := r.2, status := { s.status with b5Valid := true } }) :=
      { ComputeKeeps.refl s with adds := ⟨[.tempResult r.1 r.2], rfl, by simp, by simp⟩ }
    exact { computeKeeps_complete .none .idle k with
      press := rfl, results := fun _ => ⟨rfl, rfl⟩ }

theorem computePress_keeps (raw : Half) (s : State) : PressKeeps s (computePress raw s) := by
  cases h : presf s.cfg s.cal s.b5 raw with
  | none =>
    rw [computePress_divZero h]
    exact { computeKeeps_complete .divZero .compute (.refl s) with
      temp := rfl, b5 := rfl, b5Valid := rfl, results := fun k => absurd rfl k }
  | some p =>
    rw [computePress_result h]
    have k : ComputeKeeps s (emit (.pressResult p) { s with press := p }) :=
      { ComputeKeeps.refl s with adds := ⟨[.pressResult p], rfl, by simp, by simp⟩ }
    exact { computeKeeps_complete .none .idle k with
      temp := rfl, b5 := rfl, b5Valid := rfl, results := fun _ => rfl }

theorem TempKeeps.refl (s : State) : TempKeeps s s :=
  { ComputeKeeps.refl s with press := rfl, results := fun k => absurd k (by simp) }

theorem PressKeeps.refl (s : State) : PressKeeps s s :=
  { ComputeKeeps.refl s with
    temp := rfl, b5 := rfl, b5Valid := rfl, results := fun k => absurd rfl k }

/-! ## CTEMP and CPRES -/

theorem ctempBody_keeps (h : computeBody computeTemp s = .next t) : TempKeeps s t := by
  rcases computeBody_cases h with rfl | rfl
  · exact { TempKeeps.refl s with }
  · exact computeTemp_keeps s.hl s

theorem cpresBody_keeps (h : computeBody computePress s = .next t) : PressKeeps s t := by
  rcases computeBody_cases h with rfl | rfl
  · exact { PressKeeps.refl s with }
  · exact computePress_keeps s.hl s

/-- What CTEMP and CPRES leave in every step. -/
structure ComputeFrame (s t : State) : Prop extends KeepsTable s t, KeepsPorts s t where
  running : s.status.busy = true → KeepsIndex s t ∧
    t.status.busStatus = s.status.busStatus ∧ t.status.failXact = s.status.failXact
  adds : ∃ es, t.events = s.events ++ es ∧ (∀ r, .bpReq r ∉ es) ∧ ∀ m, .convReq m ∉ es

theorem ComputeKeeps.frame (k : ComputeKeeps s t) : ComputeFrame s t :=
  { k with running := fun _ => ⟨{ k with }, k.busStatus, k.failXact⟩ }

/-- CTEMP and CPRES in any step: accepted, held or running. -/
theorem computeCommand_keeps (hi : (∃ r g, i = .ctemp r g) ∨ ∃ r g, i = .cpres r g)
    (h : exec i s = .next t) :
    ComputeFrame s t ∧
    ((∀ r g, i ≠ .ctemp r g) → t.temp = s.temp ∧ t.b5 = s.b5 ∧ t.status.b5Valid = s.status.b5Valid) ∧
    ((∀ r g, i ≠ .cpres r g) → t.press = s.press) := by
  rcases exec_cases h with ⟨hb, rfl⟩ | ⟨hb, rfl⟩ | ⟨hb, h⟩
  · have ho : opField (encode i) ≠ 0x4#4 := by
      rcases hi with ⟨r, g, rfl⟩ | ⟨r, g, rfl⟩ <;> simp [Instr.op]
    have k := accept_keeps s ho
    have e := accept_events (encode i) s
    exact ⟨{ k with
      running := fun h => absurd (hb.symm.trans h) Bool.false_ne_true, adds := e },
      fun _ => ⟨k.temp, k.b5, k.b5Valid⟩, fun _ => k.press⟩
  · exact ⟨(ComputeKeeps.refl t).frame, fun _ => ⟨rfl, rfl, rfl⟩, fun _ => rfl⟩
  · rcases hi with ⟨r, g, rfl⟩ | ⟨r, g, rfl⟩
    · have k := ctempBody_keeps h
      exact ⟨k.frame, fun hn => absurd rfl (hn r g), fun _ => k.press⟩
    · have k := cpresBody_keeps h
      exact ⟨k.frame, fun _ => ⟨k.temp, k.b5, k.b5Valid⟩, fun hn => absurd rfl (hn r g)⟩

/-- Settles O59: `computeCommand_keeps`, register by register. -/
theorem frameComputeCommands : Obligations.FrameComputeCommands := by
  intro i s t hi h
  obtain ⟨k, kt, kp⟩ := computeCommand_keeps hi h
  refine ⟨k.result, k.cal, k.calstat, k.calValid, k.dhi, k.dlo, k.ra, k.ia, k.tb, k.rawl, k.conv,
    k.busReq, k.ffs, k.ffp, k.ffx, k.cfg, k.hostReads, k.moves, fun hb => ?_, k.adds, kt, kp⟩
  obtain ⟨ki, kb, kx⟩ := k.running hb
  exact ⟨ki.idx, ki.ffail, kb, kx⟩

/-! ## RDTEMP and RDPRES -/

/-- What RDTEMP and RDPRES leave in every step, RESULT and rawl but at the end of stage 3. -/
structure CompositeFrame (s t : State) : Prop extends KeepsTable s t where
  index : s.status.busy = true → KeepsIndex s t
  raw : t.result ≠ s.result ∨ t.rawl ≠ s.rawl →
    s.status.busy = true ∧ s.stage = 3 ∧ t.stage = 4 ∧ t.result = t.rawl

theorem BusStep.compositeFrame (h : BusStep s t) : CompositeFrame s t :=
  { h.keepsTable with
    index := fun _ => h.keepsIndex
    raw := fun k => absurd h.keepsRaw (by tauto) }

theorem ComputeKeeps.compositeFrame (k : ComputeKeeps s t) : CompositeFrame s t :=
  { k with
    index := fun _ => { k with }
    raw := fun h => absurd (And.intro k.result k.rawl) (by tauto) }

/-- A running composite read leaves the results but in stage 4, where it computes. -/
theorem compositeBody_keeps {ctrl : Byte} {mode : ConvMode} (hb : s.status.busy = true)
    (hc : ∀ raw, ComputeKeeps s (compute raw s)) (h : compositeBody ctrl mode compute s = .next t) :
    CompositeFrame s t ∧ (KeepsResults s t ∨ s.stage = 4 ∧ t = compute s.rawl s) := by
  rcases compositeBody_busStep h with h | ⟨h3, rfl⟩ | ⟨h4, rfl⟩
  · exact ⟨h.compositeFrame, .inl h.keepsResults⟩
  · exact ⟨{ KeepsTable.refl s with
      index := fun _ => { KeepsIndex.refl s with }, raw := fun _ => ⟨hb, h3, rfl, rfl⟩ },
      .inl { KeepsResults.refl s with }⟩
  · exact ⟨(hc _).compositeFrame, .inr ⟨h4, rfl⟩⟩

/-- RDTEMP and RDPRES in any step: accepted, held or running. -/
theorem compositeRead_keeps (hi : (∃ g h, i = .rdtemp g h) ∨ ∃ g h, i = .rdpres g h)
    (h : exec i s = .next t) :
    CompositeFrame s t ∧ (KeepsResults s t ∨ s.status.busy = true ∧ s.stage = 4 ∧
      ((∃ g h, i = .rdtemp g h) ∧ TempKeeps s t ∨ (∃ g h, i = .rdpres g h) ∧ PressKeeps s t)) := by
  rcases exec_cases h with ⟨hb, rfl⟩ | ⟨hb, rfl⟩ | ⟨hb, h⟩
  · have ho : opField (encode i) ≠ 0x4#4 := by
      rcases hi with ⟨g, h, rfl⟩ | ⟨g, h, rfl⟩ <;> simp [Instr.op]
    have k := accept_keeps s ho
    exact ⟨{ k with
      index := fun h => absurd (hb.symm.trans h) Bool.false_ne_true
      raw := fun h => absurd (And.intro k.result k.rawl) (by tauto) }, .inl { k with }⟩
  · exact ⟨(ComputeKeeps.refl t).compositeFrame, .inl (.refl t)⟩
  · rcases hi with ⟨g, h', rfl⟩ | ⟨g, h', rfl⟩
    · obtain ⟨k, hr⟩ := compositeBody_keeps hb (fun raw => (computeTemp_keeps raw s).1) h
      refine ⟨k, hr.imp_right ?_⟩
      rintro ⟨h4, rfl⟩
      exact ⟨hb, h4, .inl ⟨⟨g, h', rfl⟩, computeTemp_keeps s.rawl s⟩⟩
    · obtain ⟨k, hr⟩ := compositeBody_keeps hb (fun raw => (computePress_keeps raw s).1) h
      refine ⟨k, hr.imp_right ?_⟩
      rintro ⟨h4, rfl⟩
      exact ⟨hb, h4, .inr ⟨⟨g, h', rfl⟩, computePress_keeps s.rawl s⟩⟩

/-- Settles O60: `compositeRead_keeps`, register by register. -/
theorem frameCompositeReads : Obligations.FrameCompositeReads := by
  intro i s t hi h
  obtain ⟨k, hr⟩ := compositeRead_keeps hi h
  refine ⟨k.cal, k.calstat, k.calValid, k.ffs, k.ffp, k.ffx, k.cfg, k.hostReads, k.moves,
    fun hb => ⟨(k.index hb).idx, (k.index hb).ffail⟩, k.raw, ?_⟩
  rcases hr with r | ⟨hb, h4, ⟨hi, r⟩ | ⟨hi, r⟩⟩
  · exact ⟨fun h => absurd (And.intro r.temp (And.intro r.b5 r.b5Valid)) (by tauto),
      fun h => absurd r.press h⟩
  · exact ⟨fun _ => ⟨hi, hb, h4⟩, fun h => absurd r.press h⟩
  · exact ⟨fun h => absurd (And.intro r.temp (And.intro r.b5 r.b5Valid)) (by tauto),
      fun _ => ⟨hi, hb, h4⟩⟩

end Sys2Proof.Machine
end

section
/-! PROOF. The writers of the registers the host reads (10_state.md R28 to R33, 20_memory.md R66): a step that
writes one is the step of a command that may. -/

namespace Sys2Proof.Machine

variable {s t : State} {i : Instr}

/-- The block runs a command with one of these OPs. -/
def Runs (s : State) (ops : List Nat) : Prop := s.status.busy = true ∧ s.opl.toNat ∈ ops

/-- The step accepts an LDCAL. -/
def AcceptsLdcal (s t : State) : Prop :=
  s.status.busy = false ∧ t.status.busy = true ∧ t.opl = 4#4

/-- What a step but a reset may write, and when. -/
structure Writers (s t : State) : Prop where
  cfg : t.cfg = s.cfg
  result : t.result ≠ s.result → Runs s [3, 7, 8]
  temp : t.temp ≠ s.temp → Runs s [5, 7] ∧ t.status.err = .none ∧ t.status.b5Valid = true
  b5 : t.b5 ≠ s.b5 → Runs s [5, 7] ∧ t.status.err = .none ∧ t.status.b5Valid = true
  press : t.press ≠ s.press → Runs s [6, 8] ∧ t.status.err = .none
  cal : t.cal ≠ s.cal → Runs s [4]
  calstat : t.calstat ≠ s.calstat → Runs s [4] ∨ AcceptsLdcal s t ∧ t.calstat = ⟨0, 0⟩
  calValid : t.status.calValid ≠ s.status.calValid →
    (Runs s [4] ∧ t.status.calValid = true ∧ t.status.err = .none) ∨
    (AcceptsLdcal s t ∧ t.status.calValid = false)
  b5Valid : t.status.b5Valid ≠ s.status.b5Valid →
    (Runs s [5, 7] ∧ t.status.b5Valid = true ∧ t.status.err = .none) ∨
    (AcceptsLdcal s t ∧ t.status.b5Valid = false)

/-- A step that writes no register but RESULT. -/
theorem writers_of_keeps (k : KeepsTable s t) (r : KeepsResults s t)
    (h : t.result ≠ s.result → Runs s [3, 7, 8]) : Writers s t where
  cfg := k.cfg
  result := h
  temp := fun h => absurd r.temp h
  b5 := fun h => absurd r.b5 h
  press := fun h => absurd r.press h
  cal := fun h => absurd k.cal h
  calstat := fun h => absurd k.calstat h
  calValid := fun h => absurd k.calValid h
  b5Valid := fun h => absurd r.b5Valid h

theorem TempKeeps.writers (k : TempKeeps s t) (hr : Runs s [5, 7]) : Writers s t where
  cfg := k.cfg
  result := fun h => absurd k.result h
  temp := fun h => ⟨hr, k.results (.inl h)⟩
  b5 := fun h => ⟨hr, k.results (.inr (.inl h))⟩
  press := fun h => absurd k.press h
  cal := fun h => absurd k.cal h
  calstat := fun h => absurd k.calstat h
  calValid := fun h => absurd k.calValid h
  b5Valid := fun h => .inl ⟨hr, (k.results (.inr (.inr h))).symm⟩

theorem PressKeeps.writers (k : PressKeeps s t) (hr : Runs s [6, 8]) : Writers s t where
  cfg := k.cfg
  result := fun h => absurd k.result h
  temp := fun h => absurd k.temp h
  b5 := fun h => absurd k.b5 h
  press := fun h => ⟨hr, k.results h⟩
  cal := fun h => absurd k.cal h
  calstat := fun h => absurd k.calstat h
  calValid := fun h => absurd k.calValid h
  b5Valid := fun h => absurd k.b5Valid h

theorem LoadStep.writers (k : LoadStep s t) (hr : Runs s [4]) : Writers s t where
  cfg := k.cfg
  result := fun h => absurd k.result h
  temp := fun h => absurd k.temp h
  b5 := fun h => absurd k.b5 h
  press := fun h => absurd k.press h
  cal := fun _ => hr
  calstat := fun _ => .inl hr
  calValid := fun h => .inl ⟨hr, (k.calValid h).2.symm⟩
  b5Valid := fun h => absurd k.b5Valid h

/-- A running command writes the registers of its OP. -/
theorem writers_of_exec (hb : s.status.busy = true) (ho : s.opl = i.op) (h : exec i s = .next t) :
    Writers s t := by
  rcases exec_cases h with ⟨hb', -⟩ | ⟨-, rfl⟩ | ⟨-, hbody⟩
  · exact absurd (hb'.symm.trans hb) Bool.false_ne_true
  · exact writers_of_keeps (.refl t) (.refl t) fun h => absurd rfl h
  have runs {ops : List Nat} (hm : i.op.toNat ∈ ops) : Runs s ops := ⟨hb, ho ▸ hm⟩
  cases i with
  | init _ _ _ =>
    obtain ⟨k, kr, -⟩ := initBody_keeps hbody
    exact writers_of_keeps { k with } { k with } fun h => absurd kr.result h
  | trig _ _ =>
    obtain ⟨k, kr⟩ := trigBody_keeps hbody
    exact writers_of_keeps { k with } { k with } fun h => absurd kr.result h
  | rdpair _ _ =>
    obtain ⟨k, -⟩ := rdpairBody_keeps hbody
    exact writers_of_keeps { k with } { k with } fun _ => runs (by simp [Instr.op])
  | ldcal _ _ => exact (ldcalBody_keeps hbody).writers (runs (by simp [Instr.op]))
  | ctemp _ _ => exact (ctempBody_keeps hbody).writers (runs (by simp [Instr.op]))
  | cpres _ _ => exact (cpresBody_keeps hbody).writers (runs (by simp [Instr.op]))
  | rdtemp g h' =>
    obtain ⟨k, r | ⟨-, -, ⟨-, r⟩ | ⟨⟨_, _, e⟩, -⟩⟩⟩ := compositeRead_keeps (.inl ⟨g, h', rfl⟩) h
    · exact writers_of_keeps { k with } r fun _ => runs (by simp [Instr.op])
    · exact r.writers (runs (by simp [Instr.op]))
    · cases e
  | rdpres g h' =>
    obtain ⟨k, r | ⟨-, -, ⟨⟨_, _, e⟩, -⟩ | ⟨-, r⟩⟩⟩ := compositeRead_keeps (.inr ⟨g, h', rfl⟩) h
    · exact writers_of_keeps { k with } r fun _ => runs (by simp [Instr.op])
    · cases e
    · exact r.writers (runs (by simp [Instr.op]))

/-- R53: an acceptance writes the registers it clears for an LDCAL. -/
theorem writers_accept (v : Word) (hb : s.status.busy = false) : Writers s (accept v s) := by
  by_cases ho : opField v = 0x4#4
  case neg =>
    have k := accept_keeps s ho
    exact writers_of_keeps { k with } { k with } fun h => absurd k.result h
  case pos =>
    cases hl : legal v with
    | false =>
      rw [accept_illegal hl]
      exact writers_of_keeps { KeepsTable.refl s with } { KeepsResults.refl s with }
        fun h => absurd rfl h
    | true =>
      rw [accept_starts hl (not_lacks_ldcal ho), startCommand_ldcal (s := accepted v s) ho]
      have ha : AcceptsLdcal s (clearCalibration (setBusy (accepted v s))) := ⟨hb, rfl, ho⟩
      exact
        { cfg := rfl
          result := fun h => absurd rfl h
          temp := fun h => absurd rfl h
          b5 := fun h => absurd rfl h
          press := fun h => absurd rfl h
          cal := fun h => absurd rfl h
          calstat := fun _ => .inr ⟨ha, rfl⟩
          calValid := fun _ => .inr ⟨ha, rfl⟩
          b5Valid := fun _ => .inr ⟨ha, rfl⟩ }

/-- The moves of the other agents, and a host access that starts nothing, write none of these registers. -/
theorem AgentsOnly.writers (k : AgentsOnly s t) : Writers s t := by
  obtain ⟨rj, v, q, a, es, hr, ms, rfl⟩ := k.rest
  exact
    { cfg := rfl
      result := fun h => absurd rfl h
      temp := fun h => absurd rfl h
      b5 := fun h => absurd rfl h
      press := fun h => absurd rfl h
      cal := fun h => absurd rfl h
      calstat := fun h => absurd rfl h
      calValid := fun h => absurd rfl h
      b5Valid := fun h => absurd rfl h }

theorem writers_of_sequencerTurn (h : sequencerTurn exec s = .next t) : Writers s t := by
  unfold sequencerTurn at h
  split at h
  case isTrue hb =>
    split at h
    case h_1 i hd => exact writers_of_exec hb (opl_of_decode hd) h
    case h_2 => cases h
  case isFalse =>
    cases h
    exact writers_of_keeps (.refl s) (.refl s) fun h => absurd rfl h

theorem writers_of_hostWrite {off : Byte} {n : Nat} {v : Word}
    (h : hostWrite exec off n v s = .next t) : Writers s t := by
  unfold hostWrite at h
  split at h
  case isFalse => cases h
  split at h
  case isTrue =>
    cases h
    exact (agentsOnly_moves s s.moves).writers
  split at h
  case isTrue =>
    cases h
    exact (agentsOnly_reject v s).writers
  case isFalse hb =>
    rw [Bool.not_eq_true] at hb
    split at h
    next i _ =>
      rw [exec_idle i hb] at h
      cases h
      exact writers_accept _ hb
    next =>
      cases h
      exact writers_accept v hb

theorem writers_of_agentMove {m : Move} (hm : m ≠ .rst) (h : agentMove exec m s = .next t) :
    Writers s t := by
  cases m with
  | hostRead off n =>
    simp only [agentMove, hostRead] at h
    split at h <;> cases h
    exact (agentsOnly_hostReads s _).writers
  | hostWrite off n v => exact writers_of_hostWrite h
  | sequencer => exact writers_of_sequencerTurn h
  | busAnswer b =>
    cases h
    exact (agentsOnly_busAnswer b s).writers
  | timerAnswer =>
    cases h
    exact (agentsOnly_timerAnswer s).writers
  | rst => exact absurd rfl hm

theorem writers_of_step (hm : s.moves.head? ≠ some .rst) (h : step s = .next t) : Writers s t := by
  cases hms : s.moves with
  | nil => exact writers_of_sequencerTurn (step_nil hms ▸ h)
  | cons m ms =>
    rw [step_cons hms] at h
    have hne : m ≠ .rst := fun e => hm (by rw [hms, e]; rfl)
    exact { writers_of_agentMove hne h with }

/-- Settles O53: `writers_of_step`; a reset keeps the configuration too. -/
theorem registerWriters : Obligations.RegisterWriters := by
  intro s t h
  refine ⟨?_, fun hm => ?_⟩
  · by_cases hm : s.moves.head? = some .rst
    · obtain ⟨ms, hms⟩ := List.head?_eq_some_iff.mp hm
      rw [step_cons hms] at h
      cases h
      rfl
    · exact (writers_of_step hm h).cfg
  · have k := writers_of_step hm h
    exact ⟨k.result, k.temp, k.b5, k.press, k.cal, k.calstat, k.calValid, k.b5Valid⟩

end Sys2Proof.Machine
end

section
/-! PROOF. A whole RDTEMP and a whole RDPRES (42_composite_reads.md R122 to R127) under agents that answer at
once: the trigger, the conversion wait, the result read and the computation, each a stretch of the run. -/

namespace Sys2Proof.Machine

variable {s t : State} {i : Instr} {ctrl : Config → Byte} {mode : ConvMode}
  {compute : Half → State → State}

/-- Command i is a composite read of this control byte, mode and computation. -/
structure Composite (i : Instr) (ctrl : Config → Byte) (mode : ConvMode)
    (compute : Half → State → State) : Prop where
  other : i.op ≠ 0x4#4
  body : ∀ u, u.status.busy = true → held u = false →
    exec i u = compositeBody (ctrl u.cfg) mode compute u

theorem composite_rdtemp (g : Byte) (h : Half) :
    Composite (.rdtemp g h) Config.tempCtrl .temp computeTemp :=
  ⟨by simp [Instr.op], fun _ hb hh => exec_body hb hh⟩

theorem composite_rdpres (g : Byte) (h : Half) :
    Composite (.rdpres g h) Config.pressCtrl .press computePress :=
  ⟨by simp [Instr.op], fun _ hb hh => exec_body hb hh⟩

/-- A turn of the sequencer in a composite read. -/
theorem Composite.run_turn (C : Composite i ctrl mode compute) (hb : s.status.busy = true)
    (hh : held s = false) (hd : decode (latchedWord s) = .ok i) {ms : List Move} (k : Nat)
    (ht : compositeBody (ctrl s.cfg) mode compute { s with moves := ms } = .next t) :
    core.run (k + 1) { s with moves := .sequencer :: ms } = core.run k t :=
  run_succ k ((step_sequencer hb hd ms).trans ((C.body { s with moves := ms } hb hh).trans ht))

/-! ## The trigger and the wait -/

/-- The state in which the trigger of a composite read begins, but for its shape. -/
def measuring (i : Instr) (s : State) (ctrl : Byte) : State :=
  { started i s with stage := 1, tb := ctrl }

/-- The state after the conversion wait, with the result read about to begin. -/
def converted (i : Instr) (s : State) (ctrl : Byte) (mode : ConvMode) (es : List (BusReq × Byte)) :
    State :=
  { measuring i s ctrl with
    stage := 3, xact := .none, phase := .waitConv, xfail := none, busReq := none, busAns := none,
    conv := ⟨false, mode⟩
    events := (measuring i s ctrl).events ++ tradeEvents es ++ [.convReq mode] ++ [.convDone mode] }

theorem Composite.transacts_trigger (C : Composite i ctrl mode compute) (hq : Quiet s) (b : Byte) :
    Transacts i .trig (onOutcome (conversionAsked mode)) (measuring i s b) where
  running := rfl
  noWait := hq.noWait
  latched := decode_latched_started i s
  body := fun u hb hh hx hs => by
    rw [C.body u hb hh, compositeBody_trigger hs (by simp [hx]), transactionStep_trig hx]

/-- R125: from the command write to the request of the result read, when the trigger passes its checks. -/
theorem Composite.run_measure (C : Composite i ctrl mode compute) (hb : s.status.busy = false)
    (hq : Quiet s) (hk : ¬ Lacks (encode i) s) {st0 : Byte}
    (h0 : st0 = s.cfg.stStart ∨ st0 = s.cfg.stRestart) (o : Nat → Byte) (l : Byte) (k : Nat)
    (ms : List Move) :
    let es := goodTrigger s.cfg (ctrl s.cfg) st0 o ++ [(.stop, l)]
    core.run (k + 23) { s with
        moves := issueMove (encode i) :: .sequencer :: .sequencer ::
          (answering (tradeBytes es) ++ .timerAnswer :: .sequencer :: ms) } =
      core.run k { converted i s (ctrl s.cfg) mode es with moves := ms } := by
  intro es
  have T := C.transacts_trigger hq (ctrl s.cfg)
  obtain ⟨-, hasks⟩ := trigger_asks T h0 o
  have hh : held (started i s) = false := held_eq_false.2 ⟨hq.noRequest, hq.noWait⟩
  have hd := decode_latched_started i s
  have hlen : k + 20 = 2 * es.length + (k + 2) := by simp [es, goodTrigger]; omega
  let ms' := answering (tradeBytes es) ++ .timerAnswer :: .sequencer :: ms
  let asked := conversionAsked mode
    (closed (measuring i s (ctrl s.cfg)) s.dhi s.dlo es (.timerAnswer :: .sequencer :: ms))
  calc core.run (k + 23) { s with moves := issueMove (encode i) :: .sequencer :: .sequencer :: ms' }
    _ = core.run (k + 22) { started i s with moves := .sequencer :: .sequencer :: ms' } :=
      run_succ _ (step_issue hb hk C.other _)
    _ = core.run (k + 21) { started i s with stage := 1, moves := .sequencer :: ms' } :=
      C.run_turn (s := started i s) rfl hh hd _ (compositeBody_stage0 rfl)
    _ = core.run (k + 20) { opened .trig (measuring i s (ctrl s.cfg)) with moves := ms' } :=
      C.run_turn (s := { started i s with stage := 1 }) rfl hh hd _
        ((compositeBody_startTrig (s := { started i s with stage := 1, moves := ms' }) rfl
          hq.noTransaction).trans (congrArg _ (startTrig_eq_opened _ _)))
    _ = core.run (k + 2) asked := by
      rw [hlen]
      exact hasks.stop T (by decide) l (k + 2) _
    _ = core.run (k + 1) { asked with
          moves := .sequencer :: ms, conv := ⟨false, mode⟩
          events := asked.events ++ [.convDone mode] } := run_succ _ rfl
    _ = core.run k { converted i s (ctrl s.cfg) mode es with moves := ms } :=
      C.run_turn (s := { asked with
          conv := ⟨false, mode⟩, events := asked.events ++ [.convDone mode] }) rfl
        (held_eq_false.2 ⟨rfl, rfl⟩) hd _ (compositeBody_stage2 rfl)

/-! ## The result read -/

/-- The state in which the result read begins, but for its shape. -/
def reading (s : State) : State := { s with ra := s.cfg.resMsb, ia := resPair s.cfg }

theorem Composite.transacts_read (C : Composite i ctrl mode compute) (b : Byte)
    (es : List (BusReq × Byte)) :
    Transacts i .rdpair (onOutcome resultReadDone) (reading (converted i s b mode es)) where
  running := rfl
  noWait := rfl
  latched := decode_latched_started i s
  body := fun u hb hh hx hs => by
    rw [C.body u hb hh, compositeBody_read hs (by simp [hx]), transactionStep_read hx]

/-- R125: the result read and the computation, when the read passes its checks. -/
theorem Composite.run_result (C : Composite i ctrl mode compute) (hi lo : Byte) (o : Nat → Byte)
    (l : Byte) (b : Byte) (es : List (BusReq × Byte)) :
    let u := reading (converted i s b mode es)
    let es' := goodRead s.cfg s.cfg.resMsb (s.cfg.resMsb ++ s.cfg.resLsb) hi lo o ++ [(.stop, l)]
    core.run 38 { converted i s b mode es with
        moves := .sequencer :: (answering (tradeBytes es') ++ [.sequencer]) } =
      .next (compute (hi ++ lo) (resultReadDone (closed u hi lo es' []))) := by
  intro u es'
  have T := C.transacts_read (s := s) b es
  obtain ⟨-, hasks⟩ := read_asks T hi lo o
  have hd := decode_latched_started i s
  calc core.run 38 { converted i s b mode es with
        moves := .sequencer :: (answering (tradeBytes es') ++ [.sequencer]) }
    _ = core.run 37 { opened .rdpair u with moves := answering (tradeBytes es') ++ [.sequencer] } :=
      C.run_turn (s := converted i s b mode es) rfl (held_eq_false.2 ⟨rfl, rfl⟩) hd _
        ((compositeBody_startRead rfl rfl).trans (congrArg _ (startRead_eq_opened _ _ _)))
    _ = core.run 1 (resultReadDone (closed u hi lo es' [.sequencer])) :=
      hasks.stop T (by decide) l 1 _
    _ = core.run 0 (compute (hi ++ lo) (resultReadDone (closed u hi lo es' []))) :=
      C.run_turn (s := resultReadDone (closed u hi lo es' [])) rfl (held_eq_false.2 ⟨rfl, rfl⟩) hd 0
        (compositeBody_compute rfl)
    _ = .next _ := rfl

/-- The state in which a composite read computes, after the exchanges of its two transactions. -/
def measured (i : Instr) (s : State) (ctrl : Byte) (mode : ConvMode) (hi lo : Byte)
    (es es' : List (BusReq × Byte)) : State :=
  resultReadDone (closed (reading (converted i s ctrl mode es)) hi lo es' [])

theorem measured_events (i : Instr) (s : State) (ctrl : Byte) (mode : ConvMode) (hi lo : Byte)
    (es es' : List (BusReq × Byte)) (last : List Event) :
    (measured i s ctrl mode hi lo es es').events ++ last =
      s.events ++ .cmdAccepted (encode i) :: tradeEvents es ++
        .convReq mode :: .convDone mode :: tradeEvents es' ++ last := by
  simp [measured, closed, reading, converted, measuring, started]

/-- R125: a whole composite read whose two transactions pass their checks. -/
theorem Composite.run_read (C : Composite i ctrl mode compute) (hb : s.status.busy = false)
    (hq : Quiet s) (hk : ¬ Lacks (encode i) s) {st0 : Byte}
    (h0 : st0 = s.cfg.stStart ∨ st0 = s.cfg.stRestart) (hi lo : Byte) (o o' : Nat → Byte)
    (l l' : Byte) :
    let trig := goodTrigger s.cfg (ctrl s.cfg) st0 o
    let read := goodRead s.cfg s.cfg.resMsb (s.cfg.resMsb ++ s.cfg.resLsb) hi lo o'
    core.run 61 { s with
        moves := issueMove (encode i) :: .sequencer :: .sequencer ::
          answering (tradeBytes trig ++ [l]) ++
          .timerAnswer :: .sequencer :: .sequencer :: answering (tradeBytes read ++ [l']) ++
          [.sequencer] } =
      .next (compute (hi ++ lo) (measured i s (ctrl s.cfg) mode hi lo (trig ++ [(.stop, l)])
        (read ++ [(.stop, l')]))) := by
  intro trig read
  have snoc (es : List (BusReq × Byte)) (b : Byte) :
      tradeBytes es ++ [b] = tradeBytes (es ++ [(.stop, b)]) := by simp [tradeBytes]
  rw [snoc trig l, snoc read l']
  simp only [List.cons_append, List.append_assoc]
  exact (C.run_measure hb hq hk h0 o l 38 _).trans (C.run_result hi lo o' l' _ _)

/-! ## The obligation -/

/-- Settles O44: the run (`Composite.run_read`) ends in the computation, with a result or with DIV_ZERO. -/
theorem compositeReadRun : Obligations.CompositeReadRun := by
  intro s g h hi lo st0 o o' l l' hb hq hc h0 read start trace
  let ended (i : Instr) (ctrl : Byte) (mode : ConvMode) : State :=
    measured i s ctrl mode hi lo (goodTrigger s.cfg ctrl st0 o ++ [(.stop, l)])
      (read ++ [(.stop, l')])
  have hev (i : Instr) (ctrl : Byte) (mode : ConvMode) (last : List Event) :
      (ended i ctrl mode).events ++ last = trace i ctrl mode last := measured_events ..
  refine ⟨?_, fun hv => ?_⟩
  · have hk : ¬ Lacks (encode (.rdtemp g h)) s := by simp [lacks_encode_iff, Instr.op, hc]
    let u := ended (.rdtemp g h) s.cfg.tempCtrl .temp
    have k := computeTemp_keeps (hi ++ lo) u
    have kc := completes_computeTemp (hi ++ lo) u
    refine ⟨_, (composite_rdtemp g h).run_read hb hq hk h0 hi lo o o' l l', k.result, kc.busy, kc.done,
      k.press, k.cal, k.calstat, k.calValid.trans hc, fun x b hr => ?_, fun hr => ?_⟩
    · rw [computeTemp_result (s := u) hr]
      exact ⟨rfl, rfl, rfl, rfl, (List.append_assoc ..).trans (hev ..)⟩
    · rw [computeTemp_divZero (s := u) hr]
      exact ⟨rfl, rfl, rfl, rfl, rfl, hev ..⟩
  · have hk : ¬ Lacks (encode (.rdpres g h)) s := by simp [lacks_encode_iff, Instr.op, hc, hv]
    let u := ended (.rdpres g h) s.cfg.pressCtrl .press
    have k := computePress_keeps (hi ++ lo) u
    have kc := completes_computePress (hi ++ lo) u
    refine ⟨_, (composite_rdpres g h).run_read hb hq hk h0 hi lo o o' l l', k.result, kc.busy, kc.done,
      k.temp, k.b5, k.b5Valid.trans hv, k.cal, k.calstat, k.calValid.trans hc, fun p hr => ?_,
      fun hr => ?_⟩
    · rw [computePress_result (s := u) hr]
      exact ⟨rfl, rfl, (List.append_assoc ..).trans (hev ..)⟩
    · rw [computePress_divZero (s := u) hr]
      exact ⟨rfl, rfl, rfl, hev ..⟩

end Sys2Proof.Machine
end

section
/-! PROOF. A whole LDCAL whose reads pass their checks (41_calibration_compensation.md R107): an induction over
the eleven reads, each a walk through the phase table. -/

namespace Sys2Proof.Machine

variable {s u : State} {g : Byte} {h : Half}

/-! ## One read -/

/-- The state in which read k of a load begins, but for its shape. -/
def calReading (u : State) (k : Nat) : State :=
  { u with
    idx := BitVec.ofNat 4 k, stage := 1, ra := calAddrHi u.cfg k, ia := calPair u.cfg k }

theorem toNat_index {k : Nat} (hk : k ≤ 10) : (BitVec.ofNat 4 k).toNat = k := by
  rw [BitVec.toNat_ofNat]
  omega

theorem startCalRead_eq_opened {k : Nat} (hk : k ≤ 10) (u : State) :
    startCalRead (BitVec.ofNat 4 k) u = opened .rdpair (calReading u k) := by
  rw [startCalRead, toNat_index hk, startRead_eq_opened]
  rfl

/-- A running LDCAL, between two reads or before the first. -/
structure InLoad (g : Byte) (h : Half) (u : State) : Prop where
  running : u.status.busy = true
  noWait : u.conv.valid = false
  latched : decode (latchedWord u) = .ok (.ldcal g h)

theorem InLoad.transacts (L : InLoad g h u) (k : Nat) :
    Transacts (.ldcal g h) .rdpair calReadEnd (calReading u k) where
  running := L.running
  noWait := L.noWait
  latched := L.latched
  body := fun v hb hh hx _ => by
    have e : ldcalBody v = withTransaction (readStep v) calReadEnd := if_neg (by simp [hx])
    rw [transactionStep_read hx]
    exact (exec_body hb hh).trans e

/-- The exchanges of a read of the entry k that pass every check, but for its STOP. -/
def entryRead (c : Config) (k : Nat) (w : Half) (o : Nat → Byte) : List (BusReq × Byte) :=
  goodRead c (calAddrHi c k) (calPair c k) (hiByte w) (loByte w) o

/-- The state after read k, with its word in the table. -/
def readInto (u : State) (k : Nat) (w : Half) (es : List (BusReq × Byte)) (ms : List Move) : State :=
  calReadOk (closed (calReading u k) (hiByte w) (loByte w) es ms)

/-- R107: a read of 18 primitives whose checks pass takes 36 steps, and its word goes into the table. -/
theorem InLoad.run_entry (L : InLoad g h u) (k : Nat) (w : Half) (o : Nat → Byte) (l : Byte) (n : Nat)
    (ms : List Move) :
    let es := entryRead u.cfg k w o ++ [(.stop, l)]
    core.run (36 + n) { opened .rdpair (calReading u k) with moves := answering (tradeBytes es) ++ ms } =
      core.run n (calReadNext (readInto u k w es ms)) := by
  intro es
  obtain ⟨-, hasks⟩ := read_asks (L.transacts k) (hiByte w) (loByte w) o
  exact hasks.stop (L.transacts k) (by decide) l n ms

/-! ## The reads in turn -/

/-- What the run gives each read: the word, the bytes that stand with requests that return none, and the one
that stands with its STOP. -/
structure Answers where
  word : Fin 11 → Half
  other : Fin 11 → Nat → Byte
  last : Fin 11 → Byte

/-- The exchanges of read i. -/
def Answers.exchanges (a : Answers) (c : Config) (i : Fin 11) : List (BusReq × Byte) :=
  entryRead c i.val (a.word i) (a.other i) ++ [(.stop, a.last i)]

/-- The moves of the reads from k on. -/
def Answers.moves (a : Answers) (c : Config) (k : Nat) : List Move :=
  ((List.finRange 11).drop k).flatMap fun i => answering (tradeBytes (a.exchanges c i))

/-- The events of the first k reads. -/
def Answers.events (a : Answers) (c : Config) (k : Nat) : List Event :=
  ((List.finRange 11).take k).flatMap fun i =>
    tradeEvents (a.exchanges c i) ++ [.calRead (BitVec.ofNat 4 i.val) (.ok (a.word i))]

theorem Answers.moves_cons (a : Answers) (c : Config) {k : Nat} (hk : k < 11) :
    a.moves c k = answering (tradeBytes (a.exchanges c ⟨k, hk⟩)) ++ a.moves c (k + 1) := by
  rw [moves, List.drop_eq_getElem_cons (by simpa using hk), List.flatMap_cons]
  simp [moves]

theorem Answers.events_snoc (a : Answers) (c : Config) {k : Nat} (hk : k < 11) :
    a.events c (k + 1) = a.events c k ++ (tradeEvents (a.exchanges c ⟨k, hk⟩) ++
      [.calRead (BitVec.ofNat 4 k) (.ok (a.word ⟨k, hk⟩))]) := by
  rw [events, List.take_add_one, List.getElem?_eq_getElem (by simpa using hk)]
  simp [events]

/-- What the first k reads of a load begun in s₀ have done. -/
structure LoadedTo (a : Answers) (s₀ : State) (k : Nat) (u : State) : Prop where
  status : u.status = s₀.status
  opl : u.opl = s₀.opl
  bl : u.bl = s₀.bl
  hl : u.hl = s₀.hl
  conv : u.conv = s₀.conv
  cfg : u.cfg = s₀.cfg
  result : u.result = s₀.result
  temp : u.temp = s₀.temp
  press : u.press = s₀.press
  b5 : u.b5 = s₀.b5
  noFail : u.ffail = false
  readFail : u.calstat.readFail = 0
  badValue : ∀ j : Fin 11, u.calstat.badValue.getLsbD j.val = (decide (j.val < k) && badWord (a.word j))
  entries : ∀ j : Fin 11, j.val < k → u.cal[j] = a.word j
  events : u.events = s₀.events ++ a.events s₀.cfg k

theorem LoadedTo.readInto {a : Answers} {s₀ : State} {k : Nat} (L : LoadedTo a s₀ k u) (hk : k < 11)
    (ms : List Move) :
    LoadedTo a s₀ (k + 1)
      (readInto u k (a.word ⟨k, hk⟩) (a.exchanges s₀.cfg ⟨k, hk⟩) ms) := by
  let v := closed (calReading u k) (hiByte (a.word ⟨k, hk⟩)) (loByte (a.word ⟨k, hk⟩))
    (a.exchanges s₀.cfg ⟨k, hk⟩) ms
  have hw : pairValue v = a.word ⟨k, hk⟩ := hi_lo _
  have hi : v.idx.toNat = k := toNat_index (by omega)
  have hbad (j : Fin 11) : (calReadOk v).calstat.badValue.getLsbD j.val =
      (decide (j.val < k + 1) && badWord (a.word j)) := by
    rw [calReadOk_badValue, hi, hw, show v.calstat = u.calstat from rfl, L.badValue j]
    by_cases hj : j.val = k
    · obtain rfl : j = ⟨k, hk⟩ := Fin.ext hj
      simp
    · have e : (j.val < k + 1) = (j.val < k) := propext (by omega)
      simp [hj, e]
  have hcal (j : Fin 11) (hj : j.val < k + 1) : (calReadOk v).cal[j] = a.word j := by
    rw [calReadOk_cal, setCal_get, hi, hw]
    by_cases hjk : k = j.val
    · obtain rfl : ⟨k, hk⟩ = j := Fin.ext hjk
      exact if_pos rfl
    · rw [if_neg hjk]
      exact L.entries j (by omega)
  have hev : (calReadOk v).events = s₀.events ++ a.events s₀.cfg (k + 1) := by
    rw [calReadOk_events, hw, a.events_snoc s₀.cfg hk, ← List.append_assoc, ← L.events]
    exact List.append_assoc ..
  exact { L with badValue := hbad, entries := hcal, events := hev }

theorem LoadedTo.run_entry {a : Answers} {s₀ : State} {k : Nat} (L : LoadedTo a s₀ k u)
    (hq : InLoad g h s₀) (hk : k < 11) :
    ∃ v, LoadedTo a s₀ (k + 1) v ∧ v.idx = BitVec.ofNat 4 k ∧ v.moves = a.moves s₀.cfg (k + 1) ∧
      ∀ n, core.run (36 + n) { opened .rdpair (calReading u k) with moves := a.moves s₀.cfg k } =
        core.run n (calReadNext v) := by
  have hin : InLoad g h u :=
    ⟨L.status ▸ hq.running, L.conv ▸ hq.noWait, by
      rw [latchedWord, L.opl, L.bl, L.hl]
      exact hq.latched⟩
  refine ⟨_, L.readInto hk (a.moves s₀.cfg (k + 1)), rfl, rfl, fun n => ?_⟩
  have hstep := hin.run_entry k (a.word ⟨k, hk⟩) (a.other ⟨k, hk⟩) (a.last ⟨k, hk⟩) n
    (a.moves s₀.cfg (k + 1))
  rw [L.cfg] at hstep
  rw [a.moves_cons s₀.cfg hk]
  exact hstep

/-- R107: the reads from k on, each beginning where the one before it ended. -/
theorem run_reads {a : Answers} {s₀ : State} (hq : InLoad g h s₀) (n : Nat) :
    ∀ (k : Nat) (u : State), k + n = 10 → LoadedTo a s₀ k u →
    ∃ v, LoadedTo a s₀ 11 v ∧
      core.run (36 * (n + 1)) { opened .rdpair (calReading u k) with moves := a.moves s₀.cfg k } =
        .next (ldcalFinish v) := by
  induction n with
  | zero =>
    intro k u hk L
    obtain rfl : k = 10 := hk
    obtain ⟨v, L', hidx, -, hrun⟩ := L.run_entry hq (by omega)
    have hv : v.idx.toNat = 10 := by rw [hidx]; rfl
    refine ⟨v, L', (hrun 0).trans ?_⟩
    rw [calReadNext_finish hv]
    rfl
  | succ n ih =>
    intro k u hk L
    obtain ⟨v, L', hidx, hms, hrun⟩ := L.run_entry hq (by omega)
    obtain ⟨w, Lw, hw⟩ := ih (k + 1) v (by omega) L'
    have hv : v.idx.toNat = k := by
      rw [hidx]
      exact toNat_index (by omega)
    have hnext : v.idx + 1 = BitVec.ofNat 4 (k + 1) := by
      rw [hidx]
      exact BitVec.ofNat_add_ofNat ..
    have hopen : opened .rdpair (calReading v (k + 1)) =
        { opened .rdpair (calReading v (k + 1)) with moves := a.moves s₀.cfg (k + 1) } := by
      rw [← hms]
      rfl
    refine ⟨w, Lw, ?_⟩
    rw [show 36 * (n + 1 + 1) = 36 + 36 * (n + 1) by omega, hrun,
      calReadNext_start (by omega : v.idx.toNat < 10), hnext, startCalRead_eq_opened (by omega), hopen,
      hw]

/-! ## The whole command -/

/-- The state an accepted LDCAL leaves (R53). -/
def loadBegun (g : Byte) (h : Half) (s : State) : State :=
  clearCalibration (setBusy (accepted (encode (.ldcal g h)) s))

theorem inLoad_loadBegun (g : Byte) (h : Half) (hq : Quiet s) : InLoad g h (loadBegun g h s) where
  running := rfl
  noWait := hq.noWait
  latched := by
    have e : latchedWord (loadBegun g h s) = encode (.ldcal g h) := by
      rw [← latchedWord_accept (.ldcal g h) s, accept_ldcal]
      rfl
    rw [e, decode_encode]

theorem loadedTo_zero (a : Answers) (g : Byte) (h : Half) (s : State) :
    LoadedTo a (loadBegun g h s) 0 (loadBegun g h s) where
  status := rfl
  opl := rfl
  bl := rfl
  hl := rfl
  conv := rfl
  cfg := rfl
  result := rfl
  temp := rfl
  press := rfl
  b5 := rfl
  noFail := rfl
  readFail := rfl
  badValue := fun j => by simp [loadBegun]
  entries := fun j hj => absurd hj (Nat.not_lt_zero _)
  events := (List.append_nil _).symm

theorem exec_ldcal_begin (hb : s.status.busy = true) (hh : held s = false) (hx : s.xact = .none) :
    exec (.ldcal g h) s = .next (opened .rdpair (calReading s 0)) := by
  have e : ldcalBody s = .next (startCalRead 0 s) := if_pos hx
  rw [← startCalRead_eq_opened (by omega : 0 ≤ 10)]
  exact (exec_body hb hh).trans e

/-- A whole LDCAL: 2 steps to the first request, and 36 for each read. -/
theorem run_ldcal (a : Answers) (hb : s.status.busy = false) (hq : Quiet s) :
    ∃ v, LoadedTo a (loadBegun g h s) 11 v ∧
      core.run 398 { s with
        moves := issueMove (encode (.ldcal g h)) :: .sequencer :: a.moves s.cfg 0 } =
      .next (ldcalFinish v) := by
  let s₀ := loadBegun g h s
  have L := inLoad_loadBegun g h hq
  have hh : held s₀ = false := held_eq_false.2 ⟨hq.noRequest, hq.noWait⟩
  obtain ⟨v, Lv, hv⟩ := run_reads L 10 0 s₀ rfl (loadedTo_zero a g h s)
  refine ⟨v, Lv, ?_⟩
  calc core.run 398 { s with
        moves := issueMove (encode (.ldcal g h)) :: .sequencer :: a.moves s.cfg 0 }
    _ = core.run 397 { s₀ with moves := .sequencer :: a.moves s.cfg 0 } :=
      run_succ _ ((step_cmd_idle (s := { s with moves := issueMove (encode (.ldcal g h)) :: _ }) hb
        rfl).trans (congrArg _ (accept_ldcal g h { s with moves := .sequencer :: a.moves s.cfg 0 })))
    _ = core.run 396 { opened .rdpair (calReading s₀ 0) with moves := a.moves s.cfg 0 } :=
      run_succ _ ((step_sequencer (s := s₀) rfl L.latched _).trans
        (exec_ldcal_begin (s := { s₀ with moves := a.moves s.cfg 0 }) rfl hh hq.noTransaction))
    _ = .next (ldcalFinish v) := hv

theorem LoadedTo.badValue_eq_zero {a : Answers} {s₀ : State} (L : LoadedTo a s₀ 11 u) :
    u.calstat.badValue = 0 ↔ ∀ j, badWord (a.word j) = false := by
  have hbit (j : Fin 11) : u.calstat.badValue.getLsbD j.val = badWord (a.word j) := by
    rw [L.badValue j, decide_eq_true j.isLt, Bool.true_and]
  refine ⟨fun h j => ?_, fun h => BitVec.eq_of_getLsbD_eq fun j hj => ?_⟩
  · rw [← hbit j, h]
    exact BitVec.getLsbD_zero
  · rw [hbit ⟨j, hj⟩, h ⟨j, hj⟩]
    exact BitVec.getLsbD_zero.symm

/-- However a load ends, what its reads have done stays. -/
theorem ldcalFinish_keeps (s : State) :
    (ldcalFinish s).cal = s.cal ∧ (ldcalFinish s).result = s.result ∧ (ldcalFinish s).temp = s.temp ∧
    (ldcalFinish s).press = s.press ∧ (ldcalFinish s).b5 = s.b5 := by
  obtain ⟨c, p, b, x, v, e, -⟩ := ldcalFinish_eq s
  rw [e]
  exact ⟨rfl, rfl, rfl, rfl, rfl⟩

theorem badWord_iff (w : Half) : badWord w = true ↔ w = 0x0000#16 ∨ w = 0xFFFF#16 := by
  simp [badWord]

/-- Settles O30: the run (`run_ldcal`) ends with the eleven reads done (`LoadedTo`), so in BAD_CAL or NONE by
the words read. -/
theorem ldcalRun : Obligations.LdcalRun := by
  intro s g h w o last hb hq read bad
  let a : Answers := ⟨w, o, last⟩
  obtain ⟨v, L, hrun⟩ := run_ldcal (g := g) (h := h) a hb hq
  have hmoves : a.moves s.cfg 0 =
      (List.finRange 11).flatMap fun i => answering (tradeBytes (read i) ++ [last i]) := by
    have e (i : Fin 11) : tradeBytes (a.exchanges s.cfg i) = tradeBytes (read i) ++ [last i] :=
      List.map_append
    simp only [Answers.moves, List.drop_zero, e]
  have hevents : v.events = s.events ++ .cmdAccepted (encode (.ldcal g h)) ::
      (List.finRange 11).flatMap fun i => tradeEvents (read i ++ [(.stop, last i)]) ++
        [.calRead (BitVec.ofNat 4 i.val) (.ok (w i))] := by
    rw [L.events, Answers.events, List.take_of_length_le (by simp)]
    exact List.append_assoc ..
  have hbad : bad ↔ v.calstat.badValue ≠ 0 := by
    simp only [bad, ne_eq, L.badValue_eq_zero, not_forall, Bool.not_eq_false, badWord_iff]
    rfl
  obtain ⟨hbusy, hdone, -, -, -, -, hb5, hev, hcs⟩ := ldcalFinish_done v
  obtain ⟨hcal, hres, htemp, hpress, hb5'⟩ := ldcalFinish_keeps v
  rw [hmoves] at hrun
  refine ⟨_, hrun, fun i => ?_, ?_, fun i => ?_, hbusy, hdone, ?_, fun hB => ?_, fun hB => ?_,
    hres.trans L.result, htemp.trans L.temp, hpress.trans L.press, hb5'.trans L.b5, ?_⟩
  · rw [hcal]
    exact L.entries i i.isLt
  · rw [hcs]
    exact L.readFail
  · rw [hcs, L.badValue i, decide_eq_true i.isLt, Bool.true_and]
    exact badWord_iff _
  · exact hb5.trans (congrArg Status.b5Valid L.status)
  · rw [ldcalFinish_bad L.noFail (hbad.mp hB)]
    exact ⟨rfl, congrArg Status.calValid L.status⟩
  · rw [ldcalFinish_good L.noFail (not_not.mp (mt hbad.mpr hB))]
    exact ⟨rfl, rfl⟩
  · rw [hev, hevents]

end Sys2Proof.Machine
end

section
/-! PROOF. A bound on the steps of a running command when every request and every wait is answered at once
(40_bus_transactions.md R82, R83): the exchanges still to come, two steps for each, and what the command does
outside its transactions. -/

namespace Sys2Proof.Machine

variable {s u : State} {x : Shape} {row : PhaseRow}

/-! ## The exchanges still to come in a transaction (R90) -/

/-- The exchanges of a transaction after those of phase p. -/
def exchangesAfter : Shape → Phase → Nat
  | .trig, .start => 7
  | .trig, .addrAck => 5
  | .trig, .regAck => 3
  | .trig, .dataAck => 1
  | .rdpair, .start => 16
  | .rdpair, .addrAck => 14
  | .rdpair, .regAck => 12
  | .rdpair, .restart => 10
  | .rdpair, .addrRAck => 8
  | .rdpair, .readMsb => 5
  | .rdpair, .readLsbNack => 1
  | _, _ => 0

/-- The exchanges of phase p from request r on. -/
def exchangesFrom (p : Phase) : BusReq → Nat
  | .noack => 4
  | .send _ => if p = .readMsb ∨ p = .readLsbNack then 3 else 2
  | .start => 2
  | .read => 2
  | .status => 1
  | .stop => 1
  | .init _ _ => 1

theorem exchangesFrom_pos (p : Phase) (r : BusReq) : 1 ≤ exchangesFrom p r := by
  cases r with
  | send b =>
    simp only [exchangesFrom]
    split <;> omega
  | _ => simp [exchangesFrom]

theorem exchangesFrom_next {k : Nat} {r r' : BusReq} (h : phaseRow s = some row)
    (hr : row.requests[k]? = some r) (hr' : row.requests[k + 1]? = some r') :
    exchangesFrom s.phase r' < exchangesFrom s.phase r := by
  unfold phaseRow at h
  split at h <;> cases h
  all_goals rcases k with _ | _ | _ | k <;> simp at hr hr'
  all_goals
    subst hr hr'
    simp_all [exchangesFrom]

theorem exchangesAfter_next (h : phaseRow s = some row) :
    exchangesAfter s.xact row.next + exchangesFrom row.next row.nextRequest ≤
      exchangesAfter s.xact s.phase := by
  unfold phaseRow at h
  split at h <;> cases h
  all_goals simp_all [exchangesAfter, exchangesFrom]

theorem exchangesAfter_pos (h : phaseRow s = some row) : 1 ≤ exchangesAfter s.xact s.phase := by
  unfold phaseRow at h
  split at h <;> cases h
  all_goals simp_all [exchangesAfter]

/-- The exchanges of the transaction in progress, from the one under way on. -/
def exchangesLeft (s : State) : Nat :=
  match currentRequest s with
  | some r => exchangesAfter s.xact s.phase + exchangesFrom s.phase r
  | none => 0

theorem exchangesLeft_of {r : BusReq} (h : currentRequest s = some r) :
    exchangesLeft s = exchangesAfter s.xact s.phase + exchangesFrom s.phase r := by
  rw [exchangesLeft, h]

/-- A pending request takes a step of the controller besides. -/
def pendingStep (s : State) : Nat := if s.busReq.isSome then 1 else 0

/-- The steps of the transaction in progress, up to and with the one that uses STOP's answer. -/
def insideSteps (s : State) : Nat := 2 * exchangesLeft s - 1 + pendingStep s

theorem insideSteps_post {p : Phase} (r : BusReq) (hx : s.xact = x) (hp : s.phase = p) :
    insideSteps (post r s) = 2 * (exchangesAfter x p + exchangesFrom p r) := by
  subst hx hp
  have := exchangesFrom_pos s.phase r
  have h : exchangesLeft (post r s) = exchangesAfter s.xact s.phase + exchangesFrom s.phase r :=
    exchangesLeft_of (s := post r s) (currentRequest_pending rfl)
  have hp : pendingStep (post r s) = 1 := rfl
  rw [insideSteps, h, hp]
  omega

theorem insideSteps_answered {r : BusReq} {b : Byte} (hn : s.busReq = none)
    (ha : s.busAns = some (answerOf r b)) :
    insideSteps s + 1 = 2 * (exchangesAfter s.xact s.phase + exchangesFrom s.phase r) := by
  have := exchangesFrom_pos s.phase r
  have hp : pendingStep s = 0 := by simp [pendingStep, hn]
  rw [insideSteps, exchangesLeft_of (currentRequest_answered hn ha), hp]
  omega

/-- The controller's answer is one step of the transaction. -/
theorem insideSteps_busAnswer {r : BusReq} (b : Byte) (hr : s.busReq = some r) :
    insideSteps (busAnswer b s) + 1 = insideSteps s := by
  have hp : pendingStep s = 1 := by simp [pendingStep, hr]
  have := exchangesFrom_pos s.phase r
  rw [busAnswer_some b hr, insideSteps_answered (r := r) (b := b) rfl rfl, insideSteps, hp,
    exchangesLeft_of (currentRequest_pending hr)]
  simp only [emit_xact, emit_phase]
  omega

/-- A step that goes on with the transaction is one step of it. -/
theorem insideSteps_running (h : InTransaction x s) (hn : s.busReq = none)
    (e : transactionStep s = .running u) : insideSteps u < insideSteps s := by
  have hp : s.phase ≠ .stop := fun hp => transactionStep_stop hp e
  obtain ⟨row, hrow⟩ := phaseRow_of_inTransaction h hp
  obtain ⟨r, hr, hex⟩ := h.exchange
  obtain ⟨b, ha⟩ := hex.answered hn
  have hs := insideSteps_answered hn ha
  rw [← phaseRow_requests hrow] at hr
  rcases phaseRow_request_cases hrow hr with rfl | ⟨k, r', hk, hk'⟩
  · rw [transactionStep_check hrow ha] at e
    cases e
    have hone : exchangesFrom s.phase .status = 1 := rfl
    have hle : insideSteps (check (decide (b ∈ row.passes)) b row.next row.nextRequest s) ≤
        2 * exchangesAfter s.xact s.phase := by
      cases decide (b ∈ row.passes) with
      | true =>
        have := exchangesAfter_next hrow
        have e := insideSteps_post (s := { s with phase := row.next }) (x := s.xact) (p := row.next)
          row.nextRequest rfl rfl
        exact e.trans_le (by omega)
      | false =>
        have := exchangesAfter_pos hrow
        have e := insideSteps_post
          (s := { s with phase := .stop, xfail := some ⟨b, s.phase, s.xact⟩ })
          (x := s.xact) (p := .stop) .stop rfl rfl
        have h0 : exchangesAfter s.xact .stop = 0 := by cases s.xact <;> rfl
        have h1 : exchangesFrom .stop .stop = 1 := rfl
        exact e.trans_le (by omega)
    omega
  · rw [transactionStep_request hrow hk hk' ha] at e
    cases e
    have hlt := exchangesFrom_next hrow hk hk'
    obtain ⟨hi, lo, hc⟩ := captureAnswer_rest (answerOf r b) s
    rw [hc, insideSteps_post (s := { s with dhi := hi, dlo := lo }) (x := s.xact) (p := s.phase) r' rfl rfl]
    omega

/-- R92: no transaction has more than 18 exchanges. -/
theorem exchangesLeft_le (h : InTransaction x s) : exchangesLeft s ≤ 18 := by
  obtain ⟨-, ⟨r, hr, hex⟩, -, -⟩ := h
  have hc : currentRequest s = some r := by
    rcases hex with ⟨hb, -⟩ | ⟨hb, b, ha⟩
    · exact currentRequest_pending hb
    · exact currentRequest_answered hb ha
  rw [exchangesLeft_of hc]
  unfold phaseRequests at hr
  split at hr <;> simp only [List.mem_cons, List.not_mem_nil, or_false] at hr
  all_goals rcases hr with rfl | rfl | rfl | rfl
  all_goals simp_all [exchangesAfter, exchangesFrom]

theorem insideSteps_bounds (h : InTransaction x s) : 1 ≤ insideSteps s ∧ insideSteps s ≤ 36 := by
  have := exchangesLeft_le h
  have hp : pendingStep s ≤ 1 := by
    unfold pendingStep
    split <;> omega
  refine ⟨?_, by unfold insideSteps; omega⟩
  obtain ⟨-, ⟨r, -, hex⟩, -, -⟩ := h
  have hpos := exchangesFrom_pos s.phase r
  rcases hex with ⟨hb, -⟩ | ⟨hb, b, ha⟩
  · have e := exchangesLeft_of (currentRequest_pending hb)
    unfold insideSteps
    omega
  · have e := insideSteps_answered hb ha
    omega

end Sys2Proof.Machine
end

section
/-! PROOF. Every step of the schedule that answers at once brings a running command nearer to its completion
(40_bus_transactions.md R82, R83): `stepsLeft` counts the steps it still takes at most. -/

namespace Sys2Proof.Machine

variable {s t u : State} {i : Instr}

/-! ## The steps a command still takes -/

/-- R125: of a composite read, by its stage. -/
def compositeSteps (s : State) : Nat :=
  match s.stage.toNat with
  | 0 => 60
  | 1 => if s.xact = .none then 59 else insideSteps s + 40
  | 2 => if s.conv.valid then 40 else 39
  | 3 => if s.xact = .none then 38 else insideSteps s + 1
  | _ => 1

/-- The steps the running command still takes at most, when every request and wait is answered at once. -/
def stepsLeft (s : State) : Nat :=
  match s.opl.toNat with
  | 1 => if s.phase = .idle then 3 else 1 + pendingStep s
  | 2 => if s.xact = .none then 19 else insideSteps s
  | 3 => if s.xact = .none then 37 else insideSteps s
  | 4 => if s.xact = .none then 397 else insideSteps s + 36 * (10 - s.idx.toNat)
  | 5 => if s.phase = .idle then 2 else 1
  | 6 => if s.phase = .idle then 2 else 1
  | _ => compositeSteps s

theorem compositeSteps_trigger (h : s.stage = 1) (hx : s.xact ≠ .none) :
    compositeSteps s = insideSteps s + 40 := by simp [compositeSteps, h, hx]

theorem compositeSteps_beforeTrigger (h : s.stage = 1) (hx : s.xact = .none) :
    compositeSteps s = 59 := by simp [compositeSteps, h, hx]

theorem compositeSteps_wait (h : s.stage = 2) :
    compositeSteps s = if s.conv.valid then 40 else 39 := by simp [compositeSteps, h]

theorem compositeSteps_beforeRead (h : s.stage = 3) (hx : s.xact = .none) :
    compositeSteps s = 38 := by simp [compositeSteps, h, hx]

theorem compositeSteps_read (h : s.stage = 3) (hx : s.xact ≠ .none) :
    compositeSteps s = insideSteps s + 1 := by simp [compositeSteps, h, hx]

theorem compositeSteps_bounds (h : s.xact ≠ .none → ∃ x, InTransaction x s) :
    1 ≤ compositeSteps s ∧ compositeSteps s ≤ 76 := by
  have inside (hx : ¬ s.xact = .none) : 1 ≤ insideSteps s ∧ insideSteps s ≤ 36 := by
    obtain ⟨x, hi⟩ := h hx
    exact insideSteps_bounds hi
  unfold compositeSteps
  split
  · omega
  · split
    · omega
    · have := inside (by assumption)
      omega
  · split <;> omega
  · split
    · omega
    · have := inside (by assumption)
      omega
  · omega

/-- A running command with a transaction is inside it. -/
theorem CommandAt.inTransaction (h : CommandAt s) (hx : s.xact ≠ .none) : ∃ x, InTransaction x s := by
  have quiet (hq : Quiet s) : ∃ x, InTransaction x s := absurd hq.noTransaction hx
  have composite {ctrl : Byte} {mode : ConvMode} (h : CommandAt.CompositeAt ctrl mode s) :
      ∃ x, InTransaction x s := by
    rcases h with ⟨-, -, hq⟩ | ⟨-, ⟨-, hq⟩ | ⟨hi, -⟩⟩ | ⟨-, -, -, -, hn, -⟩ |
      ⟨-, ⟨-, hq⟩ | ⟨hi, -⟩⟩ | ⟨-, -, hq⟩
    · exact quiet hq
    · exact quiet hq
    · exact ⟨_, hi⟩
    · exact absurd hn hx
    · exact quiet hq
    · exact ⟨_, hi⟩
    · exact quiet hq
  rcases commandAt_op h with ho | ho | ho | ho | ho | ho | ho
  · obtain ⟨-, -, hn, -⟩ := (commandAt_init ho).mp h
    exact absurd hn hx
  · obtain ⟨-, ⟨-, hq⟩ | ⟨hi, -⟩⟩ := (commandAt_trig ho).mp h
    · exact quiet hq
    · exact ⟨_, hi⟩
  · obtain ⟨-, ⟨-, hq⟩ | ⟨hi, -⟩⟩ := (commandAt_rdpair ho).mp h
    · exact quiet hq
    · exact ⟨_, hi⟩
  · obtain ⟨-, -, -, hq⟩ | ⟨-, -, hi, -⟩ := (commandAt_ldcal ho).mp h
    · exact quiet hq
    · exact ⟨_, hi⟩
  · obtain ⟨-, hq, -⟩ := (commandAt_compute ho).mp h
    exact quiet hq
  · exact composite ((commandAt_rdtemp ho).mp h)
  · exact composite ((commandAt_rdpres ho).mp h)

theorem stepsLeft_bounds (h : CommandAt s) : 1 ≤ stepsLeft s ∧ stepsLeft s ≤ 397 := by
  have inside (hx : ¬ s.xact = .none) : 1 ≤ insideSteps s ∧ insideSteps s ≤ 36 := by
    obtain ⟨x, hi⟩ := h.inTransaction hx
    exact insideSteps_bounds hi
  have hp : pendingStep s ≤ 1 := by
    unfold pendingStep
    split <;> omega
  have hc := compositeSteps_bounds h.inTransaction
  unfold stepsLeft
  split
  · split <;> omega
  · split
    · omega
    · have := inside (by assumption)
      omega
  · split
    · omega
    · have := inside (by assumption)
      omega
  · split
    · omega
    · have := inside (by assumption)
      omega
  · split <;> omega
  · split <;> omega
  · omega

/-! ## Answers -/

theorem stepsLeft_init (ho : s.opl = 0x1#4) :
    stepsLeft s = if s.phase = .idle then 3 else 1 + pendingStep s := by simp [stepsLeft, ho]

theorem stepsLeft_trig (ho : s.opl = 0x2#4) :
    stepsLeft s = if s.xact = .none then 19 else insideSteps s := by simp [stepsLeft, ho]

theorem stepsLeft_rdpair (ho : s.opl = 0x3#4) :
    stepsLeft s = if s.xact = .none then 37 else insideSteps s := by simp [stepsLeft, ho]

theorem stepsLeft_ldcal (ho : s.opl = 0x4#4) : stepsLeft s =
    if s.xact = .none then 397 else insideSteps s + 36 * (10 - s.idx.toNat) := by
  simp [stepsLeft, ho]

theorem stepsLeft_compute (ho : s.opl = 0x5#4 ∨ s.opl = 0x6#4) :
    stepsLeft s = if s.phase = .idle then 2 else 1 := by
  rcases ho with ho | ho <;> simp [stepsLeft, ho]

theorem stepsLeft_composite (ho : s.opl = 0x7#4 ∨ s.opl = 0x8#4) :
    stepsLeft s = compositeSteps s := by
  rcases ho with ho | ho <;> simp [stepsLeft, ho]

/-- Where a request can be pending: in INIT's exchange, or in a transaction, at stage 1 or 3 of a composite
read. -/
theorem CommandAt.of_request {r : BusReq} (h : CommandAt s) (hr : s.busReq = some r) :
    s.opl = 0x1#4 ∧ s.phase ≠ .idle ∨
    s.xact ≠ .none ∧ (s.opl = 0x2#4 ∨ s.opl = 0x3#4 ∨ s.opl = 0x4#4 ∨
      (s.opl = 0x7#4 ∨ s.opl = 0x8#4) ∧ (s.stage = 1 ∨ s.stage = 3)) := by
  have quiet {P : Prop} (hq : Quiet s) : P := by simp [hq.noRequest] at hr
  have composite {ctrl : Byte} {mode : ConvMode} (h : CommandAt.CompositeAt ctrl mode s) :
      s.xact ≠ .none ∧ (s.stage = 1 ∨ s.stage = 3) := by
    rcases h with ⟨-, -, hq⟩ | ⟨h1, ⟨-, hq⟩ | ⟨hi, -⟩⟩ | ⟨-, -, -, -, -, hn, -⟩ |
      ⟨h3, ⟨-, hq⟩ | ⟨hi, -⟩⟩ | ⟨-, -, hq⟩
    · exact quiet hq
    · exact quiet hq
    · exact ⟨hi.shape_ne, .inl h1⟩
    · simp [hn] at hr
    · exact quiet hq
    · exact ⟨hi.shape_ne, .inr h3⟩
    · exact quiet hq
  rcases commandAt_op h with ho | ho | ho | ho | ho | ho | ho
  · obtain ⟨-, -, -, -, ⟨-, hq⟩ | ⟨hp, -⟩⟩ := (commandAt_init ho).mp h
    · exact quiet hq
    · exact .inl ⟨ho, by simp [hp]⟩
  · obtain ⟨-, ⟨-, hq⟩ | ⟨hi, -⟩⟩ := (commandAt_trig ho).mp h
    · exact quiet hq
    · exact .inr ⟨hi.shape_ne, .inl ho⟩
  · obtain ⟨-, ⟨-, hq⟩ | ⟨hi, -⟩⟩ := (commandAt_rdpair ho).mp h
    · exact quiet hq
    · exact .inr ⟨hi.shape_ne, .inr (.inl ho)⟩
  · obtain ⟨-, -, -, hq⟩ | ⟨-, -, hi, -⟩ := (commandAt_ldcal ho).mp h
    · exact quiet hq
    · exact .inr ⟨hi.shape_ne, .inr (.inr (.inl ho))⟩
  · obtain ⟨-, hq, -⟩ := (commandAt_compute ho).mp h
    exact quiet hq
  · obtain ⟨hx, hst⟩ := composite ((commandAt_rdtemp ho).mp h)
    exact .inr ⟨hx, .inr (.inr (.inr ⟨.inl ho, hst⟩))⟩
  · obtain ⟨hx, hst⟩ := composite ((commandAt_rdpres ho).mp h)
    exact .inr ⟨hx, .inr (.inr (.inr ⟨.inr ho, hst⟩))⟩

theorem stepsLeft_busAnswer {r : BusReq} (b : Byte) (h : CommandAt s) (hr : s.busReq = some r) :
    stepsLeft (busAnswer b s) < stepsLeft s := by
  have hin := insideSteps_busAnswer b hr
  have hp : pendingStep s = 1 := by simp [pendingStep, hr]
  rw [busAnswer_some b hr] at hin ⊢
  generalize hu : emit (.bpRsp r (answerOf r b).byte)
    { s with busReq := none, busAns := some (answerOf r b) } = u at hin ⊢
  have hop : u.opl = s.opl := by rw [← hu]; rfl
  have hxact : u.xact = s.xact := by rw [← hu]; rfl
  have hphase : u.phase = s.phase := by rw [← hu]; rfl
  have hstage : u.stage = s.stage := by rw [← hu]; rfl
  have hidx : u.idx = s.idx := by rw [← hu]; rfl
  have hpu : pendingStep u = 0 := by rw [← hu]; rfl
  rcases h.of_request hr with ⟨ho, hne⟩ | ⟨hx, ho | ho | ho | ⟨ho, hst⟩⟩
  · rw [stepsLeft_init ho, stepsLeft_init (hop.trans ho), hphase, if_neg hne, if_neg hne]
    omega
  · rw [stepsLeft_trig ho, stepsLeft_trig (hop.trans ho), hxact, if_neg hx, if_neg hx]
    omega
  · rw [stepsLeft_rdpair ho, stepsLeft_rdpair (hop.trans ho), hxact, if_neg hx, if_neg hx]
    omega
  · rw [stepsLeft_ldcal ho, stepsLeft_ldcal (hop.trans ho), hxact, if_neg hx, if_neg hx, hidx]
    omega
  · rw [stepsLeft_composite ho, stepsLeft_composite (by rwa [hop])]
    rcases hst with hst | hst
    · rw [compositeSteps_trigger hst hx,
        compositeSteps_trigger (hstage.trans hst) (by rwa [hxact])]
      omega
    · rw [compositeSteps_read hst hx, compositeSteps_read (hstage.trans hst) (by rwa [hxact])]
      omega

/-- Where a conversion wait can be: in stage 2 of a composite read. -/
theorem CommandAt.of_wait (h : CommandAt s) (hv : s.conv.valid = true) :
    (s.opl = 0x7#4 ∨ s.opl = 0x8#4) ∧ s.stage = 2 := by
  have free {P : Prop} (hn : s.conv.valid = false) : P := by simp [hn] at hv
  have composite {ctrl : Byte} {mode : ConvMode} (h : CommandAt.CompositeAt ctrl mode s) :
      s.stage = 2 := by
    rcases h with ⟨-, -, hq⟩ | ⟨-, ⟨-, hq⟩ | ⟨hi, -⟩⟩ | ⟨h2, -⟩ | ⟨-, ⟨-, hq⟩ | ⟨hi, -⟩⟩ | ⟨-, -, hq⟩
    · exact free hq.noWait
    · exact free hq.noWait
    · exact free hi.noWait
    · exact h2
    · exact free hq.noWait
    · exact free hi.noWait
    · exact free hq.noWait
  rcases commandAt_op h with ho | ho | ho | ho | ho | ho | ho
  · obtain ⟨-, -, -, hn, -⟩ := (commandAt_init ho).mp h
    exact free hn
  · obtain ⟨-, ⟨-, hq⟩ | ⟨hi, -⟩⟩ := (commandAt_trig ho).mp h
    · exact free hq.noWait
    · exact free hi.noWait
  · obtain ⟨-, ⟨-, hq⟩ | ⟨hi, -⟩⟩ := (commandAt_rdpair ho).mp h
    · exact free hq.noWait
    · exact free hi.noWait
  · obtain ⟨-, -, -, hq⟩ | ⟨-, -, hi, -⟩ := (commandAt_ldcal ho).mp h
    · exact free hq.noWait
    · exact free hi.noWait
  · obtain ⟨-, hq, -⟩ := (commandAt_compute ho).mp h
    exact free hq.noWait
  · exact ⟨.inl ho, composite ((commandAt_rdtemp ho).mp h)⟩
  · exact ⟨.inr ho, composite ((commandAt_rdpres ho).mp h)⟩

theorem stepsLeft_timerAnswer (h : CommandAt s) (hv : s.conv.valid = true) :
    stepsLeft (timerAnswer s) < stepsLeft s := by
  obtain ⟨ho, h2⟩ := h.of_wait hv
  have e : timerAnswer s =
      emit (.convDone s.conv.mode) { s with conv := ⟨false, s.conv.mode⟩ } := if_pos hv
  have hs : stepsLeft s = 40 := by
    rw [stepsLeft_composite ho, compositeSteps_wait h2, if_pos hv]
  have ht : stepsLeft (timerAnswer s) = 39 := by
    rw [e, stepsLeft_composite (by exact ho), compositeSteps_wait (by exact h2)]
    rfl
  omega

/-! ## The sequencer -/

/-- A step inside a transaction: nearer to its end, and nowhere else in the command. -/
structure GoesInside (s t : State) : Prop where
  opl : t.opl = s.opl
  stage : t.stage = s.stage
  idx : t.idx = s.idx
  xact : t.xact ≠ .none
  fewer : insideSteps t < insideSteps s

theorem trigger_advances {k : Option XFail → State → State} (h : InTransaction .trig s)
    (hn : s.busReq = none) (e : withTransaction (trigStep s) k = .next t) :
    GoesInside s t ∨ t = k s.xfail { s with xact := .none, xfail := none } := by
  rcases trig_with h hn k with ⟨u, p, r, xf, hu, e', -, rfl⟩ | ⟨e', -⟩ <;> cases e.symm.trans e'
  · exact .inl ⟨rfl, rfl, rfl, h.shape_ne,
      insideSteps_running h hn ((transactionStep_trig h.shape).trans hu)⟩
  · exact .inr rfl

theorem read_advances {k : Option XFail → State → State} (h : InTransaction .rdpair s)
    (hn : s.busReq = none) (e : withTransaction (readStep s) k = .next t) :
    GoesInside s t ∨ t = k s.xfail { s with xact := .none, xfail := none } := by
  rcases read_with h hn k with ⟨u, p, r, xf, hi, lo, hu, e', -, rfl⟩ | ⟨e', -⟩ <;>
    cases e.symm.trans e'
  · exact .inl ⟨rfl, rfl, rfl, h.shape_ne,
      insideSteps_running h hn ((transactionStep_read h.shape).trans hu)⟩
  · exact .inr rfl

theorem insideSteps_startTrig (tb : Byte) (s : State) : insideSteps (startTrig tb s) = 18 :=
  insideSteps_post (x := .trig) (p := .start) .start rfl rfl

theorem insideSteps_startRead (ra : Byte) (ia : Half) (s : State) :
    insideSteps (startRead ra ia s) = 36 :=
  insideSteps_post (x := .rdpair) (p := .start) .start rfl rfl

theorem onOutcome_busy {ok : State → State} (f : Option XFail) (u : State)
    (h : (ok u).status.busy = false) : (onOutcome ok f u).status.busy = false := by
  cases f with
  | none => exact h
  | some f => rfl

theorem initBody_advances (h : CommandAt s) (ho : s.opl = 0x1#4) (hh : held s = false)
    (e : initBody s = .next t) (ht : t.status.busy = true) : stepsLeft t < stepsLeft s := by
  obtain ⟨-, -, -, -, ⟨hp, -⟩ | ⟨hp, hex⟩⟩ := (commandAt_init ho).mp h
  · rw [initBody_idle hp] at e
    cases e
    rw [stepsLeft_init ho, if_pos hp, stepsLeft_init (by exact ho)]
    exact (by decide : 2 < 3)
  · obtain ⟨b, ha⟩ := hex.answered (held_eq_false.mp hh).1
    rw [initBody_answered hp ha] at e
    cases e
    cases ht

theorem trigBody_advances (h : CommandAt s) (ho : s.opl = 0x2#4) (hh : held s = false)
    (e : trigBody s = .next t) (ht : t.status.busy = true) : stepsLeft t < stepsLeft s := by
  rw [stepsLeft_trig ho]
  obtain ⟨-, ⟨-, hq⟩ | ⟨hi, -⟩⟩ := (commandAt_trig ho).mp h
  · rw [trigBody, if_pos hq.noTransaction] at e
    cases e
    rw [stepsLeft_trig (by exact ho), if_pos hq.noTransaction, if_neg (by simp),
      insideSteps_startTrig]
    omega
  · rw [trigBody, if_neg hi.shape_ne] at e
    rcases trigger_advances hi (held_eq_false.mp hh).1 e with k | rfl
    · rw [stepsLeft_trig (k.opl.trans ho), if_neg hi.shape_ne, if_neg k.xact]
      exact k.fewer
    · rw [onOutcome_busy _ _ rfl] at ht
      cases ht

theorem rdpairBody_advances (h : CommandAt s) (ho : s.opl = 0x3#4) (hh : held s = false)
    (e : rdpairBody s = .next t) (ht : t.status.busy = true) : stepsLeft t < stepsLeft s := by
  rw [stepsLeft_rdpair ho]
  obtain ⟨-, ⟨-, hq⟩ | ⟨hi, -⟩⟩ := (commandAt_rdpair ho).mp h
  · rw [rdpairBody, if_pos hq.noTransaction] at e
    cases e
    rw [stepsLeft_rdpair (by exact ho), if_pos hq.noTransaction, if_neg (by simp),
      insideSteps_startRead]
    omega
  · rw [rdpairBody, if_neg hi.shape_ne] at e
    rcases read_advances hi (held_eq_false.mp hh).1 e with k | rfl
    · rw [stepsLeft_rdpair (k.opl.trans ho), if_neg hi.shape_ne, if_neg k.xact]
      exact k.fewer
    · rw [onOutcome_busy _ _ rfl] at ht
      cases ht

theorem stepsLeft_startCalRead (i : BitVec 4) (ho : s.opl = 0x4#4) :
    stepsLeft (startCalRead i s) = 36 + 36 * (10 - i.toNat) := by
  rw [stepsLeft_ldcal (s := startCalRead i s) ho, if_neg (by simp), startCalRead,
    insideSteps_startRead]
  rfl

/-- R107: the end of a read leads to the next one, which is a whole read nearer to the end. -/
theorem stepsLeft_calReadEnd (ho : s.opl = 0x4#4) (hi : s.idx.toNat ≤ 10)
    (ht : (calReadEnd s.xfail { s with xact := .none, xfail := none }).status.busy = true) :
    stepsLeft (calReadEnd s.xfail { s with xact := .none, xfail := none }) ≤
      36 * (10 - s.idx.toNat) := by
  obtain ⟨cal, cs, ff, st, p, x, es, e⟩ :=
    calReadOutcome_rest s.xfail { s with xact := .none, xfail := none }
  rw [calReadEnd, e] at ht ⊢
  unfold calReadNext at ht ⊢
  split at ht
  case isTrue hlt =>
    have hlt : s.idx.toNat < 10 := hlt
    have hn : (s.idx + 1).toNat = s.idx.toNat + 1 := toNat_succ_of_le hi
    rw [if_pos (by exact hlt), stepsLeft_startCalRead _ (by exact ho), hn]
    omega
  case isFalse =>
    rw [busy_ldcalFinish] at ht
    cases ht

theorem ldcalBody_advances (h : CommandAt s) (ho : s.opl = 0x4#4) (hh : held s = false)
    (e : ldcalBody s = .next t) (ht : t.status.busy = true) : stepsLeft t < stepsLeft s := by
  rw [stepsLeft_ldcal ho]
  obtain ⟨-, -, -, hq⟩ | ⟨-, hidx, hi, -⟩ := (commandAt_ldcal ho).mp h
  · rw [ldcalBody, if_pos hq.noTransaction] at e
    cases e
    rw [stepsLeft_startCalRead 0 ho, if_pos hq.noTransaction]
    decide
  · rw [ldcalBody, if_neg hi.shape_ne] at e
    obtain ⟨hpos, -⟩ := insideSteps_bounds hi
    rw [if_neg hi.shape_ne]
    rcases read_advances hi (held_eq_false.mp hh).1 e with k | rfl
    · have hlt := k.fewer
      rw [stepsLeft_ldcal (k.opl.trans ho), if_neg k.xact, k.idx]
      omega
    · have hle := stepsLeft_calReadEnd ho hidx ht
      omega

theorem computeBody_advances {compute : Half → State → State} (h : CommandAt s)
    (ho : s.opl = 0x5#4 ∨ s.opl = 0x6#4) (hc : ∀ raw, Completes s (compute raw s))
    (e : computeBody compute s = .next t) (ht : t.status.busy = true) :
    stepsLeft t < stepsLeft s := by
  obtain ⟨-, -, hp | hp⟩ := (commandAt_compute ho).mp h
  · rw [computeBody_idle hp] at e
    cases e
    rw [stepsLeft_compute ho, if_pos hp, stepsLeft_compute (by exact ho)]
    exact (by decide : 1 < 2)
  · rw [computeBody_compute hp] at e
    cases e
    rw [(hc _).busy] at ht
    cases ht

theorem compositeBody_advances {ctrl : Byte} {mode : ConvMode} {compute : Half → State → State}
    (h : CommandAt.CompositeAt ctrl mode s) (hh : held s = false)
    (hc : ∀ raw, Completes s (compute raw s))
    (e : compositeBody ctrl mode compute s = .next t) (ht : t.status.busy = true) :
    compositeSteps t < compositeSteps s := by
  obtain ⟨hn, hw⟩ := held_eq_false.mp hh
  rcases h with ⟨h0, -, hq⟩ | ⟨h1, ⟨-, hq⟩ | ⟨hi, -⟩⟩ | ⟨h2, -, -, -, hx, -⟩ |
    ⟨h3, ⟨-, hq⟩ | ⟨hi, -⟩⟩ | ⟨h4, -, hq⟩
  · rw [compositeBody_stage0 h0] at e
    cases e
    have e : compositeSteps { s with stage := 1 } = 59 :=
      compositeSteps_beforeTrigger rfl hq.noTransaction
    rw [e]
    simp [compositeSteps, h0]
  · rw [compositeBody_startTrig h1 hq.noTransaction] at e
    cases e
    rw [compositeSteps_beforeTrigger h1 hq.noTransaction,
      compositeSteps_trigger (by exact h1) (by simp), insideSteps_startTrig]
    omega
  · rw [compositeBody_trigger h1 hi.shape_ne] at e
    obtain ⟨hpos, -⟩ := insideSteps_bounds hi
    rw [compositeSteps_trigger h1 hi.shape_ne]
    rcases trigger_advances hi hn e with k | rfl
    · have hlt := k.fewer
      rw [compositeSteps_trigger (k.stage.trans h1) k.xact]
      omega
    · cases hf : s.xfail with
      | none =>
        rw [onOutcome_ok, compositeSteps_wait rfl]
        exact Nat.lt_of_le_of_lt (by decide : 40 ≤ 40) (by omega)
      | some f =>
        rw [hf] at ht
        cases ht
  · rw [compositeBody_stage2 h2] at e
    cases e
    have e : compositeSteps { s with stage := 3 } = 38 := compositeSteps_beforeRead rfl hx
    rw [e, compositeSteps_wait h2, hw]
    decide
  · rw [compositeBody_startRead h3 hq.noTransaction] at e
    cases e
    rw [compositeSteps_beforeRead h3 hq.noTransaction,
      compositeSteps_read (by exact h3) (by simp), insideSteps_startRead]
    omega
  · rw [compositeBody_read h3 hi.shape_ne] at e
    obtain ⟨hpos, -⟩ := insideSteps_bounds hi
    rw [compositeSteps_read h3 hi.shape_ne]
    rcases read_advances hi hn e with k | rfl
    · have hlt := k.fewer
      rw [compositeSteps_read (k.stage.trans h3) k.xact]
      omega
    · cases hf : s.xfail with
      | none =>
        have h1 : compositeSteps (resultReadDone { s with xact := .none, xfail := none }) = 1 := rfl
        rw [onOutcome_ok]
        exact h1.trans_lt (by omega)
      | some f =>
        rw [hf] at ht
        cases ht
  · rw [compositeBody_compute h4] at e
    cases e
    rw [(hc _).busy] at ht
    cases ht

/-- A step of the running command that does not complete it is one of the steps it had left. -/
theorem bodyOfOp_advances (h : CommandAt s) (ho : s.opl = i.op) (hh : held s = false)
    (e : bodyOfOp i.op s = .next t) (ht : t.status.busy = true) (hop : t.opl = s.opl) :
    stepsLeft t < stepsLeft s := by
  cases i with
  | init _ _ _ => exact initBody_advances h ho hh e ht
  | trig _ _ => exact trigBody_advances h ho hh e ht
  | rdpair _ _ => exact rdpairBody_advances h ho hh e ht
  | ldcal _ _ => exact ldcalBody_advances h ho hh e ht
  | ctemp _ _ => exact computeBody_advances h (.inl ho) (fun raw => completes_computeTemp raw s) e ht
  | cpres _ _ => exact computeBody_advances h (.inr ho) (fun raw => completes_computePress raw s) e ht
  | rdtemp _ _ =>
    rw [stepsLeft_composite (.inl ho), stepsLeft_composite (.inl (hop.trans ho))]
    exact compositeBody_advances ((commandAt_rdtemp ho).mp h) hh
      (fun raw => completes_computeTemp raw s) e ht
  | rdpres _ _ =>
    rw [stepsLeft_composite (.inr ho), stepsLeft_composite (.inr (hop.trans ho))]
    exact compositeBody_advances ((commandAt_rdpres ho).mp h) hh
      (fun raw => completes_computePress raw s) e ht

theorem exec_advances (h : CommandAt s) (hb : s.status.busy = true) (hh : held s = false)
    (ho : s.opl = i.op) (e : exec i s = .next t) :
    t.status.busy = false ∧ t.status.done = true ∨
      t.status.busy = true ∧ stepsLeft t < stepsLeft s := by
  rcases exec_goes hb e with k | k
  · have ht : t.status.busy = true := (congrArg Status.busy k.status).trans hb
    exact .inr ⟨ht, bodyOfOp_advances h ho hh ((exec_body hb hh).symm.trans e) ht k.opl⟩
  · exact .inl ⟨k.busy, k.done⟩

/-! ## The obligation -/

/-- Every step of the schedule completes the command or is one of the steps it had left. -/
theorem fair_step (h : Inv s) (hb : s.status.busy = true) (b : Byte) :
    ∃ t, step { s with moves := [fairMove b s] } = .next t ∧
      (t.status.busy = false ∧ t.status.done = true ∨
        t.status.busy = true ∧ stepsLeft t < stepsLeft s) := by
  have hinv : Inv { s with moves := [] } := (agentsOnly_moves s []).inv h
  have hat : CommandAt { s with moves := [] } := hinv.running hb
  unfold fairMove
  split
  case isTrue hr =>
    obtain ⟨r, hr⟩ := Option.isSome_iff_exists.mp hr
    refine ⟨busAnswer b { s with moves := [] }, rfl,
      .inr ⟨?_, stepsLeft_busAnswer b hat hr⟩⟩
    rw [busAnswer_some b (by exact hr)]
    exact hb
  case isFalse hr =>
    split
    case isTrue hv =>
      refine ⟨timerAnswer { s with moves := [] }, rfl,
        .inr ⟨?_, stepsLeft_timerAnswer hat hv⟩⟩
      rw [timerAnswer, if_pos (by exact hv)]
      exact hb
    case isFalse hv =>
      have hh : held { s with moves := [] } = false :=
        held_eq_false.mpr ⟨by simpa using hr, by simpa using hv⟩
      obtain ⟨i, hi⟩ := decode_latched h hb
      obtain ⟨t, ht, -⟩ := exec_inv i hinv fun _ => hi
      exact ⟨t, (step_sequencer hb hi []).trans ht,
        exec_advances (s := { s with moves := [] }) hat hb hh (opl_of_decode hi) ht⟩

theorem fairRun_completes (n : Nat) : ∀ (s : State) (bytes : Nat → Byte), Inv s →
    s.status.busy = true → stepsLeft s ≤ n →
    ∃ k t, k ≤ n ∧ fairRun bytes k s = .next t ∧ t.status.busy = false ∧ t.status.done = true := by
  induction n with
  | zero =>
    intro s bytes h hb hn
    have hpos := (stepsLeft_bounds (h.running hb)).1
    omega
  | succ n ih =>
    intro s bytes h hb hn
    obtain ⟨t, ht, ⟨hbt, hdt⟩ | ⟨hbt, hlt⟩⟩ := fair_step h hb (bytes 0)
    · exact ⟨1, t, by omega, by rw [fairRun, ht]; rfl, hbt, hdt⟩
    · have hinv : Inv t := inv_of_step ((agentsOnly_moves s _).inv h) ht
      obtain ⟨k, u, hk, hu, hd⟩ := ih t (fun k => bytes (k + 1)) hinv hbt (by omega)
      exact ⟨k + 1, u, by omega, by rw [fairRun, ht]; exact hu, hd⟩

/-- Settles O55: no running command has more than 397 steps left (`stepsLeft_bounds`), and each step of the
schedule takes one of them or completes it (`fair_step`). -/
theorem fairRunsComplete : Obligations.FairRunsComplete :=
  fun s bytes h hb => fairRun_completes 397 s bytes h hb (stepsLeft_bounds (h.running hb)).2

end Sys2Proof.Machine
end
